-- ==== Sys2Proof/Word.lean ====
section
/-! DEFINITION. The word types: a CP15 register, an ARM register, an address and an instruction are 32 bits (R20, R40,
R60, R90); main memory is addressed by bytes (R60). -/

namespace Sys2Proof

/-- A 32-bit word. -/
abbrev Word := BitVec 32

/-- The unit main memory is addressed by. -/
abbrev Byte := BitVec 8

end Sys2Proof
end

