-- ==== Sys2Proof/Config.lean ====
section
/-! DEFINITION. What an implementation fixes: the parameters P1 to P22 of 00_scope.md section 4 as one record of plain
data, `Cfg`, and the values the spec leaves free as constants without a body. `Cfg` is held in State and no step changes
it, so that a statement about every state is a statement about every implementation (log 4). -/

namespace Sys2Proof

/-- P6: the architecture versions in scope (R2). -/
inductive Arch where
  | v6
  | preV6
  deriving DecidableEq, Repr

/-- P8: the kind of one bit of the Control register (R27). -/
inductive CrKind where
  /-- A storage bit: MRC returns it, MCR sets it. -/
  | rw
  /-- Reads 0, ignores writes. -/
  | fixed0
  /-- Reads 1, ignores writes. -/
  | fixed1
  /-- Reads a free value, ignores writes. -/
  | unp
  deriving DecidableEq, Repr

/-- P21 `L1_KIND`. -/
inductive L1Kind where
  | none
  | unified
  | separate
  deriving DecidableEq, Repr

/-- P21 `HAS_ALIGN_CHECK`, with the two fixed cases R187 tells apart before v6. -/
inductive AlignCheck where
  | never
  | always
  | optional
  deriving DecidableEq, Repr

/-- P21 `HAS_BE32`, with the two one-sided cases of R27's row for bit 7. -/
inductive EndianSupport where
  | leOnly
  | be32Only
  | both
  deriving DecidableEq, Repr

/-- P19: when a Control register write takes effect (R184, R298). -/
inductive CrVisibility where
  | afterFlush
  | immediate
  deriving DecidableEq, Repr

/-- P21: the facts about the implementation from which `CR_KIND` follows (R27), and whether it has PMSAv6 (R25). -/
structure Facts where
  hasMmuOrPu : Bool
  alignCheck : AlignCheck
  l1Kind : L1Kind
  l1DCanDisable : Bool
  l1ICanDisable : Bool
  hasWb : Bool
  wbCanDisable : Bool
  hasBp : Bool
  bpCanDisable : Bool
  hasAltReplacement : Bool
  hasL2 : Bool
  endian : EndianSupport
  pmsaV6 : Bool
  deriving DecidableEq, Repr

/-- P11: the reset values of B, U and EE that one setting of `CFGEND[1:0]` gives (R48). -/
structure EndianReset where
  b : Bool
  u : Bool
  ee : Bool
  deriving DecidableEq, Repr

/-- Which way an MCR or MRC moves its word (R22). -/
inductive Direction where
  | read
  | write
  deriving DecidableEq, Repr

/-- The address of a CP15 register (R21). -/
structure RegAddr where
  opc1 : BitVec 3
  crn : BitVec 4
  crm : BitVec 4
  opc2 : BitVec 3
  deriving DecidableEq, Repr

/-- An entry point of the handler with the address it is called at (R145); `USER_OPS` is a set of these (P20). -/
inductive ExtTarget where
  | read (a : RegAddr)
  | write (a : RegAddr)
  | mcrr (opcode crm : BitVec 4)
  | mrrc (opcode crm : BitVec 4)
  deriving DecidableEq, Repr

/-- One call of the handler: the entry point and the words the instruction passes (zero where it passes none). -/
structure ExtCall where
  target : ExtTarget
  arg1 : Word
  arg2 : Word
  deriving DecidableEq, Repr

/-- The state the handler owns (R32): 32-bit words (R20), their number and meaning its own. -/
abbrev ExtState := List Word

/-- What the handler does at one entry point (R145). -/
inductive ExtRule where
  /-- Verdict Unpredictable: the default answer. -/
  | unpredictable
  /-- Verdict Undefined. -/
  | undefined
  /-- Done, or a value: the owned state moves by `Config.extNext`, values come from `Config.extValue`. -/
  | served
  /-- Done with no effect on the state of the spec (the two barriers of R78). -/
  | noEffect
  /-- Done, copying CPACR and CR to their effective copies (R79, R144). -/
  | prefetchFlush
  /-- The verdict itself depends on the owned state and the words passed: `Config.extVerdict`. -/
  | byHandler
  deriving DecidableEq, Repr

/-- The three verdicts of R145. -/
inductive ExtVerdict where
  | done
  | undefined
  | unpredictable
  deriving DecidableEq, Repr, Inhabited

/-- P15: the handler `Cfg.EXT` as plain data (R145, log 6). -/
structure ExtHandler where
  /-- The non-zero opcode1 values the handler gives a meaning to (R145). -/
  opc1Assigned : List (BitVec 3)
  /-- The entry points it names. -/
  rules : List (ExtTarget × ExtRule)
  /-- What it does at every other entry point. -/
  otherwise : ExtRule
  /-- The owned state after reset (R52 leaves it to the handler). -/
  resetState : ExtState
  deriving DecidableEq, Repr

/-- The modes an exception enters (R262); each has its own R14 and SPSR (R269). -/
inductive ExcMode where
  | fiq
  | irq
  | supervisor
  | abort
  | undefined
  deriving DecidableEq, Repr

/-- The mode an exception or reset enters, and which of CPSR.A, I and F it sets; one it does not set it keeps. -/
structure EntryStatus where
  mode : ExcMode
  masksAborts : Bool
  masksIrq : Bool
  masksFiq : Bool
  deriving DecidableEq, Repr

/-- The entry of one exception: the status, and the return address as an offset from the pc of the instruction it interrupts,
or, for IRQ and FIQ, from the pc of the next one to execute. -/
structure ExcEntry extends EntryStatus where
  linkOffset : Nat
  deriving DecidableEq, Repr

/-- P22 `CORE_EXC`: the core's exception entry and return (R268 to R271, D20; log 13). A vector is a place among the eight words
of the range (R262); those of IRQ and FIQ the chapter fixes (R206). -/
structure CoreExc where
  undefinedInstruction : ExcEntry
  softwareInterrupt : ExcEntry
  prefetchAbort : ExcEntry
  dataAbort : ExcEntry
  irq : ExcEntry
  fiq : ExcEntry
  /-- What reset enters (R270). -/
  reset : EntryStatus
  resetVector : BitVec 3
  undefinedInstructionVector : BitVec 3
  softwareInterruptVector : BitVec 3
  prefetchAbortVector : BitVec 3
  dataAbortVector : BitVec 3
  /-- The bits of CPSR that a return takes from the SPSR (R271). -/
  returnMask : Word
  deriving DecidableEq, Repr

/-- P12 `ACR_MEANING` and P16 `F_MEANING`: what the control bits of the Auxiliary control register, and the F bit, do. -/
inductive BitMeaning where
  /-- They are stored and read and do nothing else (D21, R216). -/
  | noEffect
  /-- They bear on what the handler does, in a way nothing constrains (log 33). -/
  | implementationDefined
  deriving DecidableEq, Repr

/-- What the handler sees of the control bits whose meaning is IMPLEMENTATION DEFINED; 0 and false where they have no effect. -/
structure ImplControls where
  acr : Word
  f : Bool
  deriving DecidableEq, Repr

/-- The configuration record: P1 to P16 and P19 to P22 of 00_scope.md section 4. P17 is `Config.veVector`; P18 is timing only. -/
structure Cfg where
  arch : Arch
  cp15Present : Bool
  midr : Word
  ctr : Option Word
  tcmtr : Option Word
  tlbtr : Option Word
  mpuir : Option Word
  crKind : Vector CrKind 32
  facts : Facts
  vReset : Bool
  cfgend : BitVec 2
  endianTable : Vector EndianReset 4
  acrReset : Word
  acrWmask : Word
  acrMeaning : BitMeaning
  fMeaning : BitMeaning
  cpImpl : Vector Bool 14
  cpGroups : List (List (Fin 14))
  crVisibility : CrVisibility
  userOps : List ExtTarget
  ext : ExtHandler
  coreExc : CoreExc
  deriving DecidableEq, Repr

/-- The formats of the Main ID register (R157). -/
inductive MidrFormat where
  | obsolete
  | arm7
  | postArm7
  | revisedCpuid
  deriving DecidableEq, Repr

/-- The implementors whose code R156 defines. -/
inductive Implementor where
  | armLimited
  | digitalEquipment
  | motorolaFreescale
  | marvell
  | intel
  deriving DecidableEq, Repr

/-- The architecture codes R161 defines. -/
inductive ArchCode where
  | v4
  | v4T
  | v5
  | v5T
  | v5TE
  | v5TEJ
  | v6
  | revisedCpuid
  deriving DecidableEq, Repr

/-- The two interrupts the chapter names (R265). -/
inductive Interrupt where
  | irq
  | fiq
  deriving DecidableEq, Repr

namespace Config

/-- `draw_32()` of 00_scope.md section 5: the value of the UNP bits at the n-th draw (R7, R28; log 8). -/
opaque draw32 : Nat → Word

/-- `draw_4()` (R224; log 8). -/
opaque draw4 : Nat → BitVec 4

/-- An address past the top of the address space, to which R41 and D15 give no meaning (log 9). -/
opaque freeAddress : Nat → Word

/-- P17 `VE_VECTOR`: what the IMPLEMENTATION DEFINED mechanism answers at the n-th draw (R206; log 17). -/
opaque veVector : Interrupt → Nat → Word

/-- The owned state after a call the handler serves (R145; log 6). The control bits are P12 and P16 (log 33). -/
opaque extNext : ExtState → ImplControls → ExtCall → ExtState

/-- The (first) word a call the handler serves returns (R145; log 6). -/
opaque extValue : ExtState → ImplControls → ExtCall → Word

/-- The second word an MRRC returns (R124; log 6). -/
opaque extValue2 : ExtState → ImplControls → ExtCall → Word

/-- The verdict of an entry point whose rule is `byHandler` (R145; log 6). -/
opaque extVerdict : ExtState → ImplControls → ExtCall → ExtVerdict

/-- The owned state after an alignment Data Abort at an address, taken at the n-th draw: registers 5 and 6, which are the
handler's, record its cause and its address in a format no source gives (R244, R245, R261; log 34). -/
opaque extDataAbort : ExtState → Word → Nat → ExtState

/-- The owned state after a Prefetch Abort of the instruction at an address, of which the chapter says nothing (R261; log 34). -/
opaque extPrefetchAbort : ExtState → Word → Nat → ExtState

/-- What an MRRC with one register in both places leaves in it (R124; log 21). -/
opaque mrrcSameRegister : Word → Word → Word

end Config

end Sys2Proof
end

