-- ==== Sys2Proof/Syntax.lean ====
section
/-! DEFINITION. The instructions: one constructor per row of spec/opcode_table.json. The first fifteen are its
instruction-level rows in file order; the others are its register-level rows, which refine MRC and MCR (R111), so `mrc` and
`mcr` stand for the words no register-level row matches. Operands are the fields of the word, in the order the row's
pattern has them. -/

namespace Sys2Proof

/-- The conditions of R92; 0b1111 is not one of them (D16). -/
inductive Cond where
  | eq
  | ne
  | cs
  | cc
  | mi
  | pl
  | vs
  | vc
  | hi
  | ls
  | ge
  | lt
  | gt
  | le
  | al
  deriving DecidableEq, Repr

inductive Instr where
  /-- R126. -/
  | cdp2 (opc1 crn crd : BitVec 4) (opc2 : BitVec 3) (crm : BitVec 4)
  /-- R125. -/
  | cdp (cond : Cond) (opc1 crn crd : BitVec 4) (opc2 : BitVec 3) (crm : BitVec 4)
  /-- R128. -/
  | mrc2 (opc1 : BitVec 3) (crn rd : BitVec 4) (opc2 : BitVec 3) (crm : BitVec 4)
  /-- R127. -/
  | mcr2 (opc1 : BitVec 3) (crn rd : BitVec 4) (opc2 : BitVec 3) (crm : BitVec 4)
  /-- R121, for a word no register-level row matches. -/
  | mrc (cond : Cond) (opc1 : BitVec 3) (crn rd : BitVec 4) (opc2 : BitVec 3) (crm : BitVec 4)
  /-- R122, for a word no register-level row matches. -/
  | mcr (cond : Cond) (opc1 : BitVec 3) (crn rd : BitVec 4) (opc2 : BitVec 3) (crm : BitVec 4)
  /-- R134. -/
  | mrrc2 (rn rd opcode crm : BitVec 4)
  /-- R133. -/
  | mcrr2 (rn rd opcode crm : BitVec 4)
  /-- R124. -/
  | mrrc (cond : Cond) (rn rd opcode crm : BitVec 4)
  /-- R123. -/
  | mcrr (cond : Cond) (rn rd opcode crm : BitVec 4)
  /-- R135: any cond field (`none` is 0b1111) and either L. -/
  | ldcStcCorner (cond : Option Cond) (l : BitVec 1) (rn crd : BitVec 4) (offset : BitVec 8)
  /-- R130. -/
  | ldc2 (p u n w : BitVec 1) (rn crd : BitVec 4) (offset : BitVec 8)
  /-- R129. -/
  | ldc (cond : Cond) (p u n w : BitVec 1) (rn crd : BitVec 4) (offset : BitVec 8)
  /-- R132. -/
  | stc2 (p u n w : BitVec 1) (rn crd : BitVec 4) (offset : BitVec 8)
  /-- R131. -/
  | stc (cond : Cond) (p u n w : BitVec 1) (rn crd : BitVec 4) (offset : BitVec 8)
  /-- c0, c0, 0: Main ID register (R155). -/
  | mrcMidr (cond : Cond) (rd : BitVec 4)
  /-- c0, c0, 1: Cache type register (R163). -/
  | mrcCtr (cond : Cond) (rd : BitVec 4)
  /-- c0, c0, 2: TCM type register (R166). -/
  | mrcTcmtr (cond : Cond) (rd : BitVec 4)
  /-- c0, c0, 3: TLB type register (R167). -/
  | mrcTlbtr (cond : Cond) (rd : BitVec 4)
  /-- c0, c0, 4: MPU type register (R168). -/
  | mrcMpuir (cond : Cond) (rd : BitVec 4)
  /-- c0, c0, 5: reserved ID register (R169). -/
  | mrcId5 (cond : Cond) (rd : BitVec 4)
  /-- c0, c0, 6: reserved ID register (R169). -/
  | mrcId6 (cond : Cond) (rd : BitVec 4)
  /-- c0, c0, 7: reserved ID register (R169). -/
  | mrcId7 (cond : Cond) (rd : BitVec 4)
  /-- c1, c0, 0: Control register, read (R183). -/
  | mrcCr (cond : Cond) (rd : BitVec 4)
  /-- c1, c0, 0: Control register, write (R184). -/
  | mcrCr (cond : Cond) (rd : BitVec 4)
  /-- c1, c0, 1: Auxiliary control register, read (R215). -/
  | mrcAcr (cond : Cond) (rd : BitVec 4)
  /-- c1, c0, 1: Auxiliary control register, write (R216). -/
  | mcrAcr (cond : Cond) (rd : BitVec 4)
  /-- c1, c0, 2: Coprocessor access register, read (R224). -/
  | mrcCpacr (cond : Cond) (rd : BitVec 4)
  /-- c1, c0, 2: Coprocessor access register, write (R225). -/
  | mcrCpacr (cond : Cond) (rd : BitVec 4)
  /-- Register 2, Page Table Control (R241). -/
  | mrcC2 (cond : Cond) (opc1 : BitVec 3) (rd : BitVec 4) (opc2 : BitVec 3) (crm : BitVec 4)
  | mcrC2 (cond : Cond) (opc1 : BitVec 3) (rd : BitVec 4) (opc2 : BitVec 3) (crm : BitVec 4)
  /-- Register 3, Domain Access Control (R242). -/
  | mrcC3 (cond : Cond) (opc1 : BitVec 3) (rd : BitVec 4) (opc2 : BitVec 3) (crm : BitVec 4)
  | mcrC3 (cond : Cond) (opc1 : BitVec 3) (rd : BitVec 4) (opc2 : BitVec 3) (crm : BitVec 4)
  /-- Register 4, reserved (R243). -/
  | mrcC4 (cond : Cond) (opc1 : BitVec 3) (rd : BitVec 4) (opc2 : BitVec 3) (crm : BitVec 4)
  | mcrC4 (cond : Cond) (opc1 : BitVec 3) (rd : BitVec 4) (opc2 : BitVec 3) (crm : BitVec 4)
  /-- Register 5, Fault status (R244). -/
  | mrcC5 (cond : Cond) (opc1 : BitVec 3) (rd : BitVec 4) (opc2 : BitVec 3) (crm : BitVec 4)
  | mcrC5 (cond : Cond) (opc1 : BitVec 3) (rd : BitVec 4) (opc2 : BitVec 3) (crm : BitVec 4)
  /-- Register 6, Fault address (R245). -/
  | mrcC6 (cond : Cond) (opc1 : BitVec 3) (rd : BitVec 4) (opc2 : BitVec 3) (crm : BitVec 4)
  | mcrC6 (cond : Cond) (opc1 : BitVec 3) (rd : BitVec 4) (opc2 : BitVec 3) (crm : BitVec 4)
  /-- Register 7, Cache/write buffer control (R246); the write, but for the three barrier operations. -/
  | mrcC7 (cond : Cond) (opc1 : BitVec 3) (rd : BitVec 4) (opc2 : BitVec 3) (crm : BitVec 4)
  | mcrC7 (cond : Cond) (opc1 : BitVec 3) (rd : BitVec 4) (opc2 : BitVec 3) (crm : BitVec 4)
  /-- Register 8, TLB control (R247). -/
  | mrcC8 (cond : Cond) (opc1 : BitVec 3) (rd : BitVec 4) (opc2 : BitVec 3) (crm : BitVec 4)
  | mcrC8 (cond : Cond) (opc1 : BitVec 3) (rd : BitVec 4) (opc2 : BitVec 3) (crm : BitVec 4)
  /-- Register 9, Cache lockdown (R248). -/
  | mrcC9 (cond : Cond) (opc1 : BitVec 3) (rd : BitVec 4) (opc2 : BitVec 3) (crm : BitVec 4)
  | mcrC9 (cond : Cond) (opc1 : BitVec 3) (rd : BitVec 4) (opc2 : BitVec 3) (crm : BitVec 4)
  /-- Register 10, TLB lockdown (R249). -/
  | mrcC10 (cond : Cond) (opc1 : BitVec 3) (rd : BitVec 4) (opc2 : BitVec 3) (crm : BitVec 4)
  | mcrC10 (cond : Cond) (opc1 : BitVec 3) (rd : BitVec 4) (opc2 : BitVec 3) (crm : BitVec 4)
  /-- Register 11, DMA Control (R250). -/
  | mrcC11 (cond : Cond) (opc1 : BitVec 3) (rd : BitVec 4) (opc2 : BitVec 3) (crm : BitVec 4)
  | mcrC11 (cond : Cond) (opc1 : BitVec 3) (rd : BitVec 4) (opc2 : BitVec 3) (crm : BitVec 4)
  /-- Register 12, reserved (R251). -/
  | mrcC12 (cond : Cond) (opc1 : BitVec 3) (rd : BitVec 4) (opc2 : BitVec 3) (crm : BitVec 4)
  | mcrC12 (cond : Cond) (opc1 : BitVec 3) (rd : BitVec 4) (opc2 : BitVec 3) (crm : BitVec 4)
  /-- Register 13, Process ID (R252). -/
  | mrcC13 (cond : Cond) (opc1 : BitVec 3) (rd : BitVec 4) (opc2 : BitVec 3) (crm : BitVec 4)
  | mcrC13 (cond : Cond) (opc1 : BitVec 3) (rd : BitVec 4) (opc2 : BitVec 3) (crm : BitVec 4)
  /-- Register 14, reserved (R253). -/
  | mrcC14 (cond : Cond) (opc1 : BitVec 3) (rd : BitVec 4) (opc2 : BitVec 3) (crm : BitVec 4)
  | mcrC14 (cond : Cond) (opc1 : BitVec 3) (rd : BitVec 4) (opc2 : BitVec 3) (crm : BitVec 4)
  /-- Register 15, IMPLEMENTATION DEFINED (R254). -/
  | mrcC15 (cond : Cond) (opc1 : BitVec 3) (rd : BitVec 4) (opc2 : BitVec 3) (crm : BitVec 4)
  | mcrC15 (cond : Cond) (opc1 : BitVec 3) (rd : BitVec 4) (opc2 : BitVec 3) (crm : BitVec 4)
  /-- c7, c5, 4: PrefetchFlush (R78, R79). -/
  | prefetchFlush (cond : Cond) (rd : BitVec 4)
  /-- c7, c10, 4: Data synchronization barrier (R78). -/
  | dataSyncBarrier (cond : Cond) (rd : BitVec 4)
  /-- c7, c10, 5: Data memory barrier (R78). -/
  | dataMemBarrier (cond : Cond) (rd : BitVec 4)
  deriving DecidableEq, Repr

end Sys2Proof
end

