-- ==== Sys2Proof/WellFormed.lean ====
section
/-! DEFINITION. Which terms of `Instr` stand for a word: a word has one row of the opcode table (R103, R111), so `mrc`, `mcr`
and `mcrC7` may not carry the fields of a register-level row that refines them, and LDC and STC may not carry the
P = U = W = 0 fields of MCRR, MRRC and the corner (R102). Every other operand may take every value of its field. -/

namespace Sys2Proof

/-- A register-level MRC row has this address (R111): c0 with any opcode2, c1 with opcode2 0 to 2, c2 to c15. -/
def hasMrcRow (opc1 : BitVec 3) (crn : BitVec 4) (opc2 : BitVec 3) (crm : BitVec 4) : Bool :=
  2 ≤ crn.toNat || (opc1 == 0 && crm == 0 && (crn == 0 || opc2.toNat ≤ 2))

/-- A register-level MCR row has this address (R111): c1 with opcode2 0 to 2, c2 to c15; c0 has none (R152). -/
def hasMcrRow (opc1 : BitVec 3) (crn : BitVec 4) (opc2 : BitVec 3) (crm : BitVec 4) : Bool :=
  2 ≤ crn.toNat || (opc1 == 0 && crm == 0 && crn == 1 && opc2.toNat ≤ 2)

/-- The fields of a write to c7 that is one of the three barrier operations (R78). -/
def isBarrier (opc1 : BitVec 3) (opc2 : BitVec 3) (crm : BitVec 4) : Bool :=
  opc1 == 0 && ((crm == 5 && opc2 == 4) || (crm == 10 && opc2 == 4) || (crm == 10 && opc2 == 5))

/-- P = U = W = 0, which no LDC or STC has (R102). -/
def noAddressing (p u w : BitVec 1) : Bool :=
  p == 0 && u == 0 && w == 0

def Instr.wellFormed : Instr → Bool
  | .mrc _ opc1 crn _ opc2 crm => !hasMrcRow opc1 crn opc2 crm
  | .mcr _ opc1 crn _ opc2 crm => !hasMcrRow opc1 crn opc2 crm
  | .mcrC7 _ opc1 _ opc2 crm => !isBarrier opc1 opc2 crm
  | .ldc2 p u _ w _ _ _ => !noAddressing p u w
  | .ldc _ p u _ w _ _ _ => !noAddressing p u w
  | .stc2 p u _ w _ _ _ => !noAddressing p u w
  | .stc _ p u _ w _ _ _ => !noAddressing p u w
  | .cdp2 .. | .cdp .. | .mrc2 .. | .mcr2 .. | .mrrc2 .. | .mcrr2 .. | .mrrc .. | .mcrr .. | .ldcStcCorner .. => true
  | .mrcMidr .. | .mrcCtr .. | .mrcTcmtr .. | .mrcTlbtr .. | .mrcMpuir .. | .mrcId5 .. | .mrcId6 .. | .mrcId7 .. => true
  | .mrcCr .. | .mcrCr .. | .mrcAcr .. | .mcrAcr .. | .mrcCpacr .. | .mcrCpacr .. => true
  | .mrcC2 .. | .mcrC2 .. | .mrcC3 .. | .mcrC3 .. | .mrcC4 .. | .mcrC4 .. | .mrcC5 .. | .mcrC5 .. => true
  | .mrcC6 .. | .mcrC6 .. | .mrcC7 .. | .mrcC8 .. | .mcrC8 .. | .mrcC9 .. | .mcrC9 .. => true
  | .mrcC10 .. | .mcrC10 .. | .mrcC11 .. | .mcrC11 .. | .mrcC12 .. | .mcrC12 .. | .mrcC13 .. | .mcrC13 .. => true
  | .mrcC14 .. | .mcrC14 .. | .mrcC15 .. | .mcrC15 .. => true
  | .prefetchFlush .. | .dataSyncBarrier .. | .dataMemBarrier .. => true

end Sys2Proof
end

