-- ==== Sys2Proof/Decode.lean ====
section
/-! DEFINITION. The decoder (R91 to R103, R111), total on every word, and the encoder written from the same formats. A word
of the coprocessor instruction space that carries another coprocessor's number is no instruction of the opcode table;
the decoder says what the access check of R229 needs of it. Every other word is rejected by name. -/

namespace Sys2Proof

/-- Why a word is rejected. -/
inductive DecodeError where
  /-- bits[27:24] are not 0b1110 and bits[27:25] are not 0b110 (R103): a core instruction, outside the spec. -/
  | notACoprocessorInstruction
  deriving DecidableEq, Repr

/-- What a word is. -/
inductive Decoded where
  /-- A CP15 instruction (R103). -/
  | instr (i : Instr)
  /-- A coprocessor instruction for coprocessor `n`, 0 to 14 (R229); `none` is cond = 0b1111. -/
  | coprocessor (n : BitVec 4) (cond : Option Cond)
  /-- The P = U = N = W = 0 corner of LDC and STC with another coprocessor's number (R102). -/
  | coprocessorCorner (cond : Option Cond)
  | rejected (e : DecodeError)
  deriving DecidableEq, Repr

/-! ### Fields -/

/-- The cond field of R92. -/
def Cond.bits : Cond → BitVec 4
  | .eq => 0b0000
  | .ne => 0b0001
  | .cs => 0b0010
  | .cc => 0b0011
  | .mi => 0b0100
  | .pl => 0b0101
  | .vs => 0b0110
  | .vc => 0b0111
  | .hi => 0b1000
  | .ls => 0b1001
  | .ge => 0b1010
  | .lt => 0b1011
  | .gt => 0b1100
  | .le => 0b1101
  | .al => 0b1110

/-- R92: 0b1111 is not a condition. -/
def condOfBits (b : BitVec 4) : Option Cond :=
  match b.toNat with
  | 0 => some .eq
  | 1 => some .ne
  | 2 => some .cs
  | 3 => some .cc
  | 4 => some .mi
  | 5 => some .pl
  | 6 => some .vs
  | 7 => some .vc
  | 8 => some .hi
  | 9 => some .ls
  | 10 => some .ge
  | 11 => some .lt
  | 12 => some .gt
  | 13 => some .le
  | 14 => some .al
  | _ => none

/-- The cond field of a word that may be unconditional. -/
def condBits : Option Cond → BitVec 4
  | none => 0b1111
  | some c => c.bits

/-- `len` bits of a word from bit `lo` up (00_scope.md section 5). -/
def field (w : Word) (lo len : Nat) : BitVec len :=
  w.extractLsb' lo len

def condOf (w : Word) : Option Cond :=
  condOfBits (field w 28 4)

/-- bits[11:8] (R94). -/
def cpNumOf (w : Word) : BitVec 4 :=
  field w 8 4

/-- bits[27:24] = 0b1110 or bits[27:25] = 0b110 (R103). -/
def inCoprocessorSpace (w : Word) : Bool :=
  field w 24 4 == 0b1110 || field w 25 3 == 0b110

/-- R103: the word is a CP15 instruction. -/
def isCp15Word (w : Word) : Bool :=
  cpNumOf w == 0b1111 && inCoprocessorSpace w

/-! ### The decoder -/

/-- The register-level row of an MRC (R111), else `mrc`. -/
def refineMrc (cond : Cond) (opc1 : BitVec 3) (crn rd : BitVec 4) (opc2 : BitVec 3) (crm : BitVec 4) : Instr :=
  match crn.toNat with
  | 0 =>
    if opc1 = 0 ∧ crm = 0 then
      match opc2.toNat with
      | 0 => .mrcMidr cond rd
      | 1 => .mrcCtr cond rd
      | 2 => .mrcTcmtr cond rd
      | 3 => .mrcTlbtr cond rd
      | 4 => .mrcMpuir cond rd
      | 5 => .mrcId5 cond rd
      | 6 => .mrcId6 cond rd
      | _ => .mrcId7 cond rd
    else .mrc cond opc1 crn rd opc2 crm
  | 1 =>
    if opc1 = 0 ∧ crm = 0 then
      match opc2.toNat with
      | 0 => .mrcCr cond rd
      | 1 => .mrcAcr cond rd
      | 2 => .mrcCpacr cond rd
      | _ => .mrc cond opc1 crn rd opc2 crm
    else .mrc cond opc1 crn rd opc2 crm
  | 2 => .mrcC2 cond opc1 rd opc2 crm
  | 3 => .mrcC3 cond opc1 rd opc2 crm
  | 4 => .mrcC4 cond opc1 rd opc2 crm
  | 5 => .mrcC5 cond opc1 rd opc2 crm
  | 6 => .mrcC6 cond opc1 rd opc2 crm
  | 7 => .mrcC7 cond opc1 rd opc2 crm
  | 8 => .mrcC8 cond opc1 rd opc2 crm
  | 9 => .mrcC9 cond opc1 rd opc2 crm
  | 10 => .mrcC10 cond opc1 rd opc2 crm
  | 11 => .mrcC11 cond opc1 rd opc2 crm
  | 12 => .mrcC12 cond opc1 rd opc2 crm
  | 13 => .mrcC13 cond opc1 rd opc2 crm
  | 14 => .mrcC14 cond opc1 rd opc2 crm
  | _ => .mrcC15 cond opc1 rd opc2 crm

/-- The register-level row of a write to c7: the barrier operations have the larger mask (R78, R111). -/
def refineMcrC7 (cond : Cond) (opc1 : BitVec 3) (rd : BitVec 4) (opc2 : BitVec 3) (crm : BitVec 4) : Instr :=
  if opc1 = 0 ∧ crm = 5 ∧ opc2 = 4 then .prefetchFlush cond rd
  else if opc1 = 0 ∧ crm = 10 ∧ opc2 = 4 then .dataSyncBarrier cond rd
  else if opc1 = 0 ∧ crm = 10 ∧ opc2 = 5 then .dataMemBarrier cond rd
  else .mcrC7 cond opc1 rd opc2 crm

/-- The register-level row of an MCR (R111), else `mcr`. -/
def refineMcr (cond : Cond) (opc1 : BitVec 3) (crn rd : BitVec 4) (opc2 : BitVec 3) (crm : BitVec 4) : Instr :=
  match crn.toNat with
  | 0 => .mcr cond opc1 crn rd opc2 crm
  | 1 =>
    if opc1 = 0 ∧ crm = 0 then
      match opc2.toNat with
      | 0 => .mcrCr cond rd
      | 1 => .mcrAcr cond rd
      | 2 => .mcrCpacr cond rd
      | _ => .mcr cond opc1 crn rd opc2 crm
    else .mcr cond opc1 crn rd opc2 crm
  | 2 => .mcrC2 cond opc1 rd opc2 crm
  | 3 => .mcrC3 cond opc1 rd opc2 crm
  | 4 => .mcrC4 cond opc1 rd opc2 crm
  | 5 => .mcrC5 cond opc1 rd opc2 crm
  | 6 => .mcrC6 cond opc1 rd opc2 crm
  | 7 => refineMcrC7 cond opc1 rd opc2 crm
  | 8 => .mcrC8 cond opc1 rd opc2 crm
  | 9 => .mcrC9 cond opc1 rd opc2 crm
  | 10 => .mcrC10 cond opc1 rd opc2 crm
  | 11 => .mcrC11 cond opc1 rd opc2 crm
  | 12 => .mcrC12 cond opc1 rd opc2 crm
  | 13 => .mcrC13 cond opc1 rd opc2 crm
  | 14 => .mcrC14 cond opc1 rd opc2 crm
  | _ => .mcrC15 cond opc1 rd opc2 crm

/-- bits[27:24] = 0b1110 and bit[4] = 0: CDP2 or CDP (R102, R103). -/
def decodeCdp (w : Word) : Instr :=
  match condOf w with
  | none => .cdp2 (field w 20 4) (field w 16 4) (field w 12 4) (field w 5 3) (field w 0 4)
  | some c => .cdp c (field w 20 4) (field w 16 4) (field w 12 4) (field w 5 3) (field w 0 4)

/-- bits[27:24] = 0b1110 and bit[4] = 1: MRC2, MCR2, MRC or MCR (R91, R93, R103). -/
def decodeMcr (w : Word) : Instr :=
  match condOf w with
  | none =>
    if field w 20 1 = 1 then .mrc2 (field w 21 3) (field w 16 4) (field w 12 4) (field w 5 3) (field w 0 4)
    else .mcr2 (field w 21 3) (field w 16 4) (field w 12 4) (field w 5 3) (field w 0 4)
  | some c =>
    if field w 20 1 = 1 then refineMrc c (field w 21 3) (field w 16 4) (field w 12 4) (field w 5 3) (field w 0 4)
    else refineMcr c (field w 21 3) (field w 16 4) (field w 12 4) (field w 5 3) (field w 0 4)

/-- bits[27:21] = 0b1100010: MRRC2, MCRR2, MRRC or MCRR (R101, R103). -/
def decodeMcrr (w : Word) : Instr :=
  match condOf w with
  | none =>
    if field w 20 1 = 1 then .mrrc2 (field w 16 4) (field w 12 4) (field w 4 4) (field w 0 4)
    else .mcrr2 (field w 16 4) (field w 12 4) (field w 4 4) (field w 0 4)
  | some c =>
    if field w 20 1 = 1 then .mrrc c (field w 16 4) (field w 12 4) (field w 4 4) (field w 0 4)
    else .mcrr c (field w 16 4) (field w 12 4) (field w 4 4) (field w 0 4)

/-- bits[27:25] = 0b110 and none of the above: LDC2, STC2, LDC or STC (R102, R103). -/
def decodeLdcStc (w : Word) : Instr :=
  match condOf w with
  | none =>
    if field w 20 1 = 1 then
      .ldc2 (field w 24 1) (field w 23 1) (field w 22 1) (field w 21 1) (field w 16 4) (field w 12 4) (field w 0 8)
    else .stc2 (field w 24 1) (field w 23 1) (field w 22 1) (field w 21 1) (field w 16 4) (field w 12 4) (field w 0 8)
  | some c =>
    if field w 20 1 = 1 then
      .ldc c (field w 24 1) (field w 23 1) (field w 22 1) (field w 21 1) (field w 16 4) (field w 12 4) (field w 0 8)
    else .stc c (field w 24 1) (field w 23 1) (field w 22 1) (field w 21 1) (field w 16 4) (field w 12 4) (field w 0 8)

/-- The classification of R103, of a word whose coprocessor number is 15. -/
def decodeCp15 (w : Word) : Instr :=
  if field w 24 4 = 0b1110 then
    if field w 4 1 = 0 then decodeCdp w else decodeMcr w
  else if field w 21 7 = 0b1100010 then decodeMcrr w
  else if field w 21 7 = 0b1100000 then
    .ldcStcCorner (condOf w) (field w 20 1) (field w 16 4) (field w 12 4) (field w 0 8)
  else decodeLdcStc w

/-- What a word is (R103, R229). -/
def decode (w : Word) : Decoded :=
  if inCoprocessorSpace w then
    if cpNumOf w = 0b1111 then .instr (decodeCp15 w)
    else if field w 21 7 = 0b1100000 then .coprocessorCorner (condOf w)
    else .coprocessor (cpNumOf w) (condOf w)
  else .rejected .notACoprocessorInstruction

/-! ### The encoder -/

/-- The format of CDP (R102). -/
def cdpWord (c opc1 crn crd : BitVec 4) (opc2 : BitVec 3) (crm : BitVec 4) : Word :=
  c ++ 0b1110#4 ++ opc1 ++ crn ++ crd ++ 0b1111#4 ++ opc2 ++ 0#1 ++ crm

/-- The format of MCR and MRC (R91). -/
def mcrWord (c : BitVec 4) (opc1 : BitVec 3) (l : BitVec 1) (crn rd : BitVec 4) (opc2 : BitVec 3) (crm : BitVec 4) :
    Word :=
  c ++ 0b1110#4 ++ opc1 ++ l ++ crn ++ rd ++ 0b1111#4 ++ opc2 ++ 1#1 ++ crm

/-- The format of MCRR and MRRC (R101). -/
def mcrrWord (c : BitVec 4) (l : BitVec 1) (rn rd opcode crm : BitVec 4) : Word :=
  c ++ 0b1100010#7 ++ l ++ rn ++ rd ++ 0b1111#4 ++ opcode ++ crm

/-- The format of LDC and STC (R102). -/
def ldcWord (c : BitVec 4) (p u n w l : BitVec 1) (rn crd : BitVec 4) (offset : BitVec 8) : Word :=
  c ++ 0b110#3 ++ p ++ u ++ n ++ w ++ l ++ rn ++ crd ++ 0b1111#4 ++ offset

/-- The word of an instruction. -/
def encode : Instr → Word
  | .cdp2 opc1 crn crd opc2 crm => cdpWord 0b1111 opc1 crn crd opc2 crm
  | .cdp c opc1 crn crd opc2 crm => cdpWord c.bits opc1 crn crd opc2 crm
  | .mrc2 opc1 crn rd opc2 crm => mcrWord 0b1111 opc1 1 crn rd opc2 crm
  | .mcr2 opc1 crn rd opc2 crm => mcrWord 0b1111 opc1 0 crn rd opc2 crm
  | .mrc c opc1 crn rd opc2 crm => mcrWord c.bits opc1 1 crn rd opc2 crm
  | .mcr c opc1 crn rd opc2 crm => mcrWord c.bits opc1 0 crn rd opc2 crm
  | .mrrc2 rn rd opcode crm => mcrrWord 0b1111 1 rn rd opcode crm
  | .mcrr2 rn rd opcode crm => mcrrWord 0b1111 0 rn rd opcode crm
  | .mrrc c rn rd opcode crm => mcrrWord c.bits 1 rn rd opcode crm
  | .mcrr c rn rd opcode crm => mcrrWord c.bits 0 rn rd opcode crm
  | .ldcStcCorner c l rn crd offset => ldcWord (condBits c) 0 0 0 0 l rn crd offset
  | .ldc2 p u n w rn crd offset => ldcWord 0b1111 p u n w 1 rn crd offset
  | .ldc c p u n w rn crd offset => ldcWord c.bits p u n w 1 rn crd offset
  | .stc2 p u n w rn crd offset => ldcWord 0b1111 p u n w 0 rn crd offset
  | .stc c p u n w rn crd offset => ldcWord c.bits p u n w 0 rn crd offset
  | .mrcMidr c rd => mcrWord c.bits 0 1 0 rd 0 0
  | .mrcCtr c rd => mcrWord c.bits 0 1 0 rd 1 0
  | .mrcTcmtr c rd => mcrWord c.bits 0 1 0 rd 2 0
  | .mrcTlbtr c rd => mcrWord c.bits 0 1 0 rd 3 0
  | .mrcMpuir c rd => mcrWord c.bits 0 1 0 rd 4 0
  | .mrcId5 c rd => mcrWord c.bits 0 1 0 rd 5 0
  | .mrcId6 c rd => mcrWord c.bits 0 1 0 rd 6 0
  | .mrcId7 c rd => mcrWord c.bits 0 1 0 rd 7 0
  | .mrcCr c rd => mcrWord c.bits 0 1 1 rd 0 0
  | .mcrCr c rd => mcrWord c.bits 0 0 1 rd 0 0
  | .mrcAcr c rd => mcrWord c.bits 0 1 1 rd 1 0
  | .mcrAcr c rd => mcrWord c.bits 0 0 1 rd 1 0
  | .mrcCpacr c rd => mcrWord c.bits 0 1 1 rd 2 0
  | .mcrCpacr c rd => mcrWord c.bits 0 0 1 rd 2 0
  | .mrcC2 c opc1 rd opc2 crm => mcrWord c.bits opc1 1 2 rd opc2 crm
  | .mcrC2 c opc1 rd opc2 crm => mcrWord c.bits opc1 0 2 rd opc2 crm
  | .mrcC3 c opc1 rd opc2 crm => mcrWord c.bits opc1 1 3 rd opc2 crm
  | .mcrC3 c opc1 rd opc2 crm => mcrWord c.bits opc1 0 3 rd opc2 crm
  | .mrcC4 c opc1 rd opc2 crm => mcrWord c.bits opc1 1 4 rd opc2 crm
  | .mcrC4 c opc1 rd opc2 crm => mcrWord c.bits opc1 0 4 rd opc2 crm
  | .mrcC5 c opc1 rd opc2 crm => mcrWord c.bits opc1 1 5 rd opc2 crm
  | .mcrC5 c opc1 rd opc2 crm => mcrWord c.bits opc1 0 5 rd opc2 crm
  | .mrcC6 c opc1 rd opc2 crm => mcrWord c.bits opc1 1 6 rd opc2 crm
  | .mcrC6 c opc1 rd opc2 crm => mcrWord c.bits opc1 0 6 rd opc2 crm
  | .mrcC7 c opc1 rd opc2 crm => mcrWord c.bits opc1 1 7 rd opc2 crm
  | .mcrC7 c opc1 rd opc2 crm => mcrWord c.bits opc1 0 7 rd opc2 crm
  | .mrcC8 c opc1 rd opc2 crm => mcrWord c.bits opc1 1 8 rd opc2 crm
  | .mcrC8 c opc1 rd opc2 crm => mcrWord c.bits opc1 0 8 rd opc2 crm
  | .mrcC9 c opc1 rd opc2 crm => mcrWord c.bits opc1 1 9 rd opc2 crm
  | .mcrC9 c opc1 rd opc2 crm => mcrWord c.bits opc1 0 9 rd opc2 crm
  | .mrcC10 c opc1 rd opc2 crm => mcrWord c.bits opc1 1 10 rd opc2 crm
  | .mcrC10 c opc1 rd opc2 crm => mcrWord c.bits opc1 0 10 rd opc2 crm
  | .mrcC11 c opc1 rd opc2 crm => mcrWord c.bits opc1 1 11 rd opc2 crm
  | .mcrC11 c opc1 rd opc2 crm => mcrWord c.bits opc1 0 11 rd opc2 crm
  | .mrcC12 c opc1 rd opc2 crm => mcrWord c.bits opc1 1 12 rd opc2 crm
  | .mcrC12 c opc1 rd opc2 crm => mcrWord c.bits opc1 0 12 rd opc2 crm
  | .mrcC13 c opc1 rd opc2 crm => mcrWord c.bits opc1 1 13 rd opc2 crm
  | .mcrC13 c opc1 rd opc2 crm => mcrWord c.bits opc1 0 13 rd opc2 crm
  | .mrcC14 c opc1 rd opc2 crm => mcrWord c.bits opc1 1 14 rd opc2 crm
  | .mcrC14 c opc1 rd opc2 crm => mcrWord c.bits opc1 0 14 rd opc2 crm
  | .mrcC15 c opc1 rd opc2 crm => mcrWord c.bits opc1 1 15 rd opc2 crm
  | .mcrC15 c opc1 rd opc2 crm => mcrWord c.bits opc1 0 15 rd opc2 crm
  | .prefetchFlush c rd => mcrWord c.bits 0 0 7 rd 4 5
  | .dataSyncBarrier c rd => mcrWord c.bits 0 0 7 rd 4 10
  | .dataMemBarrier c rd => mcrWord c.bits 0 0 7 rd 5 10

/-! ### Words in memory -/

/-- A word from its bytes, least significant first (log 11). -/
def wordOfBytes (b0 b1 b2 b3 : Byte) : Word :=
  b3 ++ b2 ++ b1 ++ b0

/-- The bytes of a word, least significant first, as memory holds them at rising addresses (log 11). -/
def bytesOfWord (w : Word) : List Byte :=
  [field w 0 8, field w 8 8, field w 16 8, field w 24 8]

/-- What the bytes at the program counter are; `none` where there are fewer than four (R90). -/
def decodeBytes : List Byte → Option (Decoded × List Byte)
  | b0 :: b1 :: b2 :: b3 :: rest => some (decode (wordOfBytes b0 b1 b2 b3), rest)
  | _ => none

/-- The word of an instruction whose low `nbits` bits are `w`'s, every bit above them 0. -/
def tableWord (nbits w : Nat) : Word :=
  BitVec.ofNat 32 (w % 2 ^ nbits)

/-- The instruction the decoder reads from an instruction whose bits are `w`, as spec/opcode_table.json numbers them. -/
def decodeTableWord (nbits w : Nat) : Option Instr :=
  match decodeBytes (bytesOfWord (tableWord nbits w)) with
  | some (.instr i, _) => some i
  | _ => none

end Sys2Proof
end

