-- ==== Sys2Proof/Machine/Params.lean ====
section
/-! DEFINITION. What follows from the configuration record: the masks of R28 and R31, the reset values of R46 to R49, the
fields of the ID registers (41_reg0_id_codes.md), which configurations are well formed, and the profile T of
95_test_vectors.md section 0, in which State.reset starts (log 5). -/

namespace Sys2Proof

/-- The word whose bit `i` is `f i` for `i < n`, and 0 above. -/
def wordBelow (f : Nat → Bool) : Nat → Word
  | 0 => 0
  | n + 1 => wordBelow f n ||| (if f n then BitVec.twoPow 32 n else 0)

/-- The word whose bit `i` is `f i`. -/
def wordOf (f : Nat → Bool) : Word :=
  wordBelow f 32

/-- `CR_KIND[i]` (R27). -/
def Cfg.crKindAt (c : Cfg) (i : Nat) : CrKind :=
  c.crKind[i]?.getD .unp

/-- The word whose bit `i` is 1 exactly when `CR_KIND[i]` is `k` (R28). -/
def Cfg.kindMask (c : Cfg) (k : CrKind) : Word :=
  wordOf fun i => c.crKindAt i == k

/-- `RWMASK` (R28). -/
def Cfg.rwMask (c : Cfg) : Word :=
  c.kindMask .rw

/-- `ONES` (R28). -/
def Cfg.onesMask (c : Cfg) : Word :=
  c.kindMask .fixed1

/-- `UNPMASK` (R28). -/
def Cfg.unpMask (c : Cfg) : Word :=
  c.kindMask .unp

/-- `CP_IMPL[n]` (P13); no coprocessor above 13 has one. -/
def Cfg.cpImplAt (c : Cfg) (n : Nat) : Bool :=
  c.cpImpl[n]?.getD false

/-- `IMPLMASK` (R31): 0b11 in field n exactly when coprocessor n is implemented. -/
def Cfg.implMask (c : Cfg) : Word :=
  wordOf fun i => c.cpImplAt (i / 2)

/-- The access rights of coprocessor n in a Coprocessor access register value, bits 2n+1 : 2n (R30). -/
def accessRights (w : Word) (n : Nat) : BitVec 2 :=
  w.extractLsb' (2 * n) 2

/-- R141: CP15 is not implemented, which only an implementation before v6 may choose (R3). -/
def Cfg.cp15Absent (c : Cfg) : Bool :=
  c.arch == .preV6 && !c.cp15Present

/-- An opcode1 value the handler gives a meaning to (R95, R145). -/
def Cfg.opc1Assigned (c : Cfg) (opc1 : BitVec 3) : Bool :=
  c.ext.opc1Assigned.contains opc1

/-- A member of `USER_OPS`, which only v6 has (R137 to R139). -/
def Cfg.userAllows (c : Cfg) (t : ExtTarget) : Bool :=
  c.arch == .v6 && c.userOps.contains t

/-- The rule a list names for an entry point. -/
def lookupRule (t : ExtTarget) : List (ExtTarget × ExtRule) → Option ExtRule
  | [] => none
  | (t', r) :: rest => if t' = t then some r else lookupRule t rest

/-- What the handler does at an entry point (R145). -/
def Cfg.extRule (c : Cfg) (t : ExtTarget) : ExtRule :=
  (lookupRule t c.ext.rules).getD c.ext.otherwise

/-! ### The core's exception entry (P22) -/

/-- CPSR[4:0] of the mode (R269, R270; FIQ and IRQ likewise). -/
def ExcMode.bits : ExcMode → BitVec 5
  | .fiq => 0b10001
  | .irq => 0b10010
  | .supervisor => 0b10011
  | .abort => 0b10111
  | .undefined => 0b11011

/-- Where the mode's SPSR is (R269). -/
def ExcMode.spsrIndex : ExcMode → Fin 5
  | .fiq => 0
  | .supervisor => 1
  | .abort => 2
  | .irq => 3
  | .undefined => 4

/-- CPSR on entry: flags and unnamed bits kept, E from EE, A, I and F set or kept, T cleared, the mode (R268, R269). -/
def entryStatus (e : EntryStatus) (ee : Bool) (c : Word) : Word :=
  c.extractLsb' 10 22 ++ BitVec.ofBool ee ++ BitVec.ofBool (e.masksAborts || c.getLsbD 8) ++
    BitVec.ofBool (e.masksIrq || c.getLsbD 7) ++ BitVec.ofBool (e.masksFiq || c.getLsbD 6) ++ 0#1 ++ e.mode.bits

/-- The vector range V selects (R197). -/
def vectorRange (high : Bool) : Word :=
  if high then 0xFFFF0000 else 0x00000000

/-- The offset of a vector in its range (R262). -/
def vectorOffset (v : BitVec 3) : Word :=
  0#27 ++ v ++ 0#2

/-- The default of `CORE_EXC`: the sequences the spec adopts from general knowledge (R262, R269 to R271, D20; log 13; Software
interrupt and Prefetch Abort PRESUMED, log 14). -/
def CoreExc.generalKnowledge : CoreExc where
  undefinedInstruction := { mode := .undefined, masksAborts := false, masksIrq := true, masksFiq := false, linkOffset := 4 }
  softwareInterrupt := { mode := .supervisor, masksAborts := false, masksIrq := true, masksFiq := false, linkOffset := 4 }
  prefetchAbort := { mode := .abort, masksAborts := true, masksIrq := true, masksFiq := false, linkOffset := 4 }
  dataAbort := { mode := .abort, masksAborts := true, masksIrq := true, masksFiq := false, linkOffset := 8 }
  irq := { mode := .irq, masksAborts := true, masksIrq := true, masksFiq := false, linkOffset := 4 }
  fiq := { mode := .fiq, masksAborts := true, masksIrq := true, masksFiq := true, linkOffset := 4 }
  reset := { mode := .supervisor, masksAborts := true, masksIrq := true, masksFiq := true }
  resetVector := 0
  undefinedInstructionVector := 1
  softwareInterruptVector := 2
  prefetchAbortVector := 3
  dataAbortVector := 4
  returnMask := 0xFFFFFFFF

/-! ### Reset values (R46 to R49) -/

/-- `B_RESET`, `U_RESET`, `EE_RESET`, as the pins `CFGEND[1:0]` select them; before v6 B alone is preset (R44, R48). -/
def Cfg.endianReset (c : Cfg) : EndianReset :=
  let preset := c.endianTable[c.cfgend.toNat]'c.cfgend.isLt
  match c.arch with
  | .v6 => preset
  | .preV6 =>
    { preset with
      u := false
      ee := false }

/-- One bit at a position. -/
def bitAt (b : Bool) (i : Nat) : Word :=
  if b then BitVec.twoPow 32 i else 0

/-- The Control register after reset (R46 to R48). -/
def Cfg.resetCr (c : Cfg) : Word :=
  (bitAt c.vReset 13 ||| bitAt c.endianReset.b 7 ||| bitAt c.endianReset.u 22 ||| bitAt c.endianReset.ee 25) &&& c.rwMask

/-- The Auxiliary control register after reset (R49). -/
def Cfg.resetAcr (c : Cfg) : Word :=
  c.acrReset &&& c.acrWmask

/-- The reset vector, in the vector range V selects after reset (R68, R197, R270). -/
def Cfg.resetPc (c : Cfg) : Word :=
  vectorRange c.vReset + vectorOffset c.coreExc.resetVector

/-- CPSR after reset: the mode and the masks of `CORE_EXC` (Supervisor mode, IRQ, FIQ and imprecise aborts masked), ARM state,
E as EE was preset (R270); the flags and the bits the spec does not name are 0 (log 3). -/
def Cfg.resetCpsr (c : Cfg) : Word :=
  entryStatus c.coreExc.reset c.endianReset.ee 0

/-! ### The ID registers (41_reg0_id_codes.md) -/

/-- The value a read of primary register 0 selects (R151, R153). -/
def Cfg.idRegister (c : Cfg) (opc2 : BitVec 3) : Word :=
  match opc2.toNat with
  | 1 => c.ctr.getD c.midr
  | 2 => c.tcmtr.getD c.midr
  | 3 => c.tlbtr.getD c.midr
  | 4 => c.mpuir.getD c.midr
  | _ => c.midr

/-- ID register `opc2` is implemented; opcode2 0 is the Main ID register itself, 5 to 7 name none (R150, R153). -/
def Cfg.idPresent (c : Cfg) (opc2 : BitVec 3) : Bool :=
  match opc2.toNat with
  | 1 => c.ctr.isSome
  | 2 => c.tcmtr.isSome
  | 3 => c.tlbtr.isSome
  | 4 => c.mpuir.isSome
  | _ => false

/-- R156: bits[31:24] of the Main ID register, in every format. -/
def midrImplementorCode (v : Word) : BitVec 8 := v.extractLsb' 24 8

/-- R158, R159: bits[3:0]. -/
def midrRevision (v : Word) : BitVec 4 := v.extractLsb' 0 4

/-- R158, R159: bits[15:4]. -/
def midrPartNumber (v : Word) : BitVec 12 := v.extractLsb' 4 12

/-- R159: bits[23:20], post-ARM7 format. -/
def midrVariant (v : Word) : BitVec 4 := v.extractLsb' 20 4

/-- R159, R161: bits[19:16], post-ARM7 format. -/
def midrArchitectureCode (v : Word) : BitVec 4 := v.extractLsb' 16 4

/-- R158: bit 23, ARM7 format: 1 is Architecture 4T, 0 the obsolete Architecture 3. -/
def midrArm7Is4T (v : Word) : Bool := v.getLsbD 23

/-- R158: bits[22:16], ARM7 format. -/
def midrArm7Variant (v : Word) : BitVec 7 := v.extractLsb' 16 7

/-- R156. -/
def implementorOf (code : BitVec 8) : Option Implementor :=
  match code.toNat with
  | 0x41 => some .armLimited
  | 0x44 => some .digitalEquipment
  | 0x4D => some .motorolaFreescale
  | 0x56 => some .marvell
  | 0x69 => some .intel
  | _ => none

/-- R161. -/
def archCodeOf (code : BitVec 4) : Option ArchCode :=
  match code.toNat with
  | 0x1 => some .v4
  | 0x2 => some .v4T
  | 0x3 => some .v5
  | 0x4 => some .v5T
  | 0x5 => some .v5TE
  | 0x6 => some .v5TEJ
  | 0x7 => some .v6
  | 0xF => some .revisedCpuid
  | _ => none

/-- `MIDR_format` (R157). -/
def midrFormat (v : Word) : MidrFormat :=
  if v.extractLsb' 12 4 = 0x0#4 then .obsolete
  else if v.extractLsb' 12 4 = 0x7#4 then .arm7
  else if v.extractLsb' 16 4 = 0xF#4 then .revisedCpuid
  else .postArm7

/-- Cache type register: ctype, bits[28:25] (R163). -/
def ctrCtype (v : Word) : BitVec 4 := v.extractLsb' 25 4

/-- Cache type register: S, bit 24; 1 is separate caches (R164). -/
def ctrSeparate (v : Word) : Bool := v.getLsbD 24

/-- Cache type register: Dsize, bits[23:12] (R164). -/
def ctrDsize (v : Word) : BitVec 12 := v.extractLsb' 12 12

/-- Cache type register: Isize, bits[11:0] (R164). -/
def ctrIsize (v : Word) : BitVec 12 := v.extractLsb' 0 12

/-- TCM type register: DTCM, bits[18:16] (R166). -/
def tcmtrDtcm (v : Word) : BitVec 3 := v.extractLsb' 16 3

/-- TCM type register: ITCM, bits[2:0] (R166). -/
def tcmtrItcm (v : Word) : BitVec 3 := v.extractLsb' 0 3

/-- TLB type register: S, bit 0; 1 is separate TLBs (R167). MPU type register: the same place (R168). -/
def typeSeparate (v : Word) : Bool := v.getLsbD 0

/-- TLB type register: DLsize, bits[15:8] (R167). MPU type register: DRegion (R168). -/
def typeDataCount (v : Word) : BitVec 8 := v.extractLsb' 8 8

/-- TLB type register: ILsize, bits[23:16] (R167). MPU type register: IRegion (R168). -/
def typeInstructionCount (v : Word) : BitVec 8 := v.extractLsb' 16 8

/-! ### Well-formed configurations -/

/-- R160. -/
def midrWf (arch : Arch) (v : Word) : Bool :=
  (implementorOf (midrImplementorCode v)).isSome &&
  (match midrFormat v with
   | .obsolete => false
   | .arm7 => arch == .preV6
   | .revisedCpuid => true
   | .postArm7 => (archCodeOf (midrArchitectureCode v)).isSome && (arch == .preV6 || midrArchitectureCode v == 0x7))

/-- R164, R165: a unified cache has one size, and the L1 caches are unified when S = 0 and separate when S = 1. -/
def ctrWf (l1 : L1Kind) (v : Word) : Bool :=
  (ctrSeparate v || ctrDsize v == ctrIsize v) && l1 == (if ctrSeparate v then .separate else .unified)

/-- R166: 0 to 4 TCMs of each kind. -/
def tcmtrWf (v : Word) : Bool :=
  (tcmtrDtcm v).toNat ≤ 4 && (tcmtrItcm v).toNat ≤ 4

/-- The kinds R27 allows for bit `i`. -/
def allowedKinds (arch : Arch) (f : Facts) (i : Nat) : List CrKind :=
  match i with
  | 0 => if f.hasMmuOrPu then [.rw] else [.fixed0]
  | 1 =>
    match arch, f.alignCheck with
    | .v6, _ => [.rw]
    | .preV6, .optional => [.rw]
    | .preV6, .always => [.fixed1]
    | .preV6, .never => [.fixed0]
  | 2 => if f.l1Kind = .none then [.fixed0] else if f.l1DCanDisable then [.rw] else [.fixed1]
  | 3 => if !f.hasWb then [.fixed0] else if f.wbCanDisable then [.rw] else [.fixed1]
  | 4 | 5 | 6 => [.fixed1]
  | 7 =>
    match f.endian with
    | .both => [.rw]
    | .leOnly => [.fixed0]
    | .be32Only => [.fixed1]
  | 8 | 9 => [.rw, .fixed0]
  | 10 => [.rw, .fixed0, .fixed1, .unp]
  | 11 => if !f.hasBp then [.fixed0] else if f.bpCanDisable then [.rw] else [.fixed1]
  | 12 => if f.l1Kind ≠ .separate then [.fixed0] else if f.l1ICanDisable then [.rw] else [.fixed1]
  | 13 => [.rw]
  | 14 => if f.hasAltReplacement then [.rw] else [.fixed0, .fixed1]
  | 15 => [.rw, .fixed0, .fixed1]
  | 16 | 18 => [.fixed1]
  | 17 | 19 => [.fixed0]
  | 21 | 22 | 23 | 24 | 25 => [.rw, .fixed0, .fixed1]
  | 26 => if f.hasL2 then [.rw] else [.fixed0]
  | _ => [.unp]

/-- Every bit of the Control register has a kind R27 allows it. -/
def Cfg.crKindsWf (c : Cfg) : Bool :=
  (List.range 32).all fun i => (allowedKinds c.arch c.facts i).contains (c.crKindAt i)

/-- R138, R139: the user-access commands are writes outside primary registers 0 and 1, with opcode1 0, and MCRR
operations (log 32). -/
def userOpWf : ExtTarget → Bool
  | .write a => a.opc1 == 0 && 2 ≤ a.crn.toNat
  | .mcrr _ _ => true
  | .read _ | .mrrc _ _ => false

/-- R154: an ID register that is present differs from the Main ID register. -/
def differsFrom (midr : Word) : Option Word → Bool
  | none => true
  | some v => v != midr

/-- A configuration that meets what the spec asks of the parameters (00_scope.md section 4). -/
def Cfg.wf (c : Cfg) : Bool :=
  midrWf c.arch c.midr &&
  differsFrom c.midr c.ctr && differsFrom c.midr c.tcmtr && differsFrom c.midr c.tlbtr && differsFrom c.midr c.mpuir &&
  c.ctr.all (ctrWf c.facts.l1Kind) && c.tcmtr.all tcmtrWf &&
  (c.mpuir.isNone || c.facts.pmsaV6) &&
  (c.arch == .preV6 || c.cp15Present) &&
  c.crKindsWf &&
  c.userOps.all userOpWf &&
  !c.ext.opc1Assigned.contains 0

/-! ### The configuration of State.reset -/

/-- The three barrier operations of R78. -/
def prefetchFlushAddr : RegAddr := ⟨0, 7, 5, 4⟩

def dataSyncBarrierAddr : RegAddr := ⟨0, 7, 10, 4⟩

def dataMemBarrierAddr : RegAddr := ⟨0, 7, 10, 5⟩

/-- The default handler with the three barriers (R144, R145; 95_test_vectors.md section 0). -/
def defaultHandler : ExtHandler where
  opc1Assigned := []
  rules := [(.write prefetchFlushAddr, .prefetchFlush), (.write dataSyncBarrierAddr, .noEffect),
    (.write dataMemBarrierAddr, .noEffect)]
  otherwise := .unpredictable
  resetState := []

/-- Profile T of 95_test_vectors.md section 0 (DESIGN CHOICE, log 5). -/
def Cfg.profileT : Cfg where
  arch := .v6
  cp15Present := true
  midr := 0x4107B362
  ctr := some 0x1D152152
  tcmtr := some 0x00010001
  tlbtr := some 0x00000800
  mpuir := none
  crKind := #v[.rw, .rw, .rw, .fixed1, .fixed1, .fixed1, .fixed1, .rw, .rw, .rw, .fixed0, .rw, .rw, .rw, .rw, .rw,
    .fixed1, .fixed0, .fixed1, .fixed0, .unp, .rw, .rw, .rw, .rw, .rw, .fixed0, .unp, .unp, .unp, .unp, .unp]
  facts := {
    hasMmuOrPu := true
    alignCheck := .optional
    l1Kind := .separate
    l1DCanDisable := true
    l1ICanDisable := true
    hasWb := true
    wbCanDisable := false
    hasBp := true
    bpCanDisable := true
    hasAltReplacement := true
    hasL2 := false
    endian := .both
    pmsaV6 := false }
  vReset := false
  cfgend := 0
  endianTable := #v[⟨false, false, false⟩, ⟨true, false, false⟩, ⟨false, true, false⟩, ⟨false, true, true⟩]
  acrReset := 0
  acrWmask := 0
  acrMeaning := .noEffect
  fMeaning := .noEffect
  cpImpl := #v[false, false, false, false, false, false, false, false, false, false, true, true, false, false]
  cpGroups := [[10, 11]]
  crVisibility := .afterFlush
  userOps := [.write prefetchFlushAddr, .write dataSyncBarrierAddr, .write dataMemBarrierAddr]
  ext := defaultHandler
  coreExc := .generalKnowledge

end Sys2Proof
end

