-- ==== Sys2Proof/Machine/State.lean ====
section
/-! DEFINITION. The state of the machine, as plain data: the ARM core as far as CP15 touches it (10_state.md section 5,
60_exceptions.md R269 to R271), the CP15 registers and their hidden copies (10_state.md R24), main memory, the
implementation's constants, and the model's own counter of free values. -/

namespace Sys2Proof.Machine

open Sys2Proof

/-- Main memory: (address, byte) pairs, addresses strictly rising; an address that is not listed holds no byte (log 10). -/
abbrev Memory := List Host.Cell

/-- The machine. A field's reset value stands in INVENTORY.md. -/
structure State where
  /-- The implementation's constants; nothing changes them (log 4). -/
  cfg : Cfg
  /-- Every physical general register: R0 to R14 of User mode in 0 to 14, R8 to R14 of FIQ in 15 to 21, R13 and R14 of
  Supervisor in 22 and 23, of Abort in 24 and 25, of IRQ in 26 and 27, of Undefined in 28 and 29 (R40, R269; log 12). -/
  regs : Vector Word 30
  /-- SPSR of FIQ, Supervisor, Abort, IRQ, Undefined (R269). -/
  spsr : Vector Word 5
  /-- R41. -/
  pc : Word
  /-- N, Z, C, V in 31 to 28, E in 9, A in 8, I in 7, F in 6, T in 5, mode in 4 to 0 (R42, R43, R269). -/
  cpsr : Word
  /-- CP15.CR (R26 to R28). -/
  cr : Word
  /-- CP15.CR_EFF (R36). -/
  crEff : Word
  /-- CP15.ACR (R29). -/
  acr : Word
  /-- CP15.CPACR (R30, R31). -/
  cpacr : Word
  /-- CP15.CPACR_EFF (R36). -/
  cpacrEff : Word
  /-- CP15.EXT (R32). -/
  ext : ExtState
  /-- Main memory (R60). -/
  mem : Memory
  /-- The model's own: how many free values have been drawn (log 8). -/
  draws : Nat
  deriving DecidableEq, Repr

/-- Why the machine stops with a fault. Both are safe: no claim can be made about what follows. -/
inductive Fault where
  /-- `step`: a fetch from an address memory does not hold, which ends a run early (R304). Safe. -/
  | fetchUnlisted
  /-- `step`: the pc is not word-aligned, and the spec fetches from word-aligned addresses only (R67, D15; log 24). Safe. -/
  | fetchUnaligned
  deriving DecidableEq, Repr

/-- Why the model gives an instruction no next state. All are safe: no claim can be made about what follows. -/
inductive Refusal where
  /-- `exec`: the instruction has no meaning yet. Safe. -/
  | notModelled (mnemonic : String)
  /-- MRC, MCR, MRRC, MCRR: R15 as an ARM register is UNPREDICTABLE (R96, R104 condition 1, R123). Safe. -/
  | rdIsPc
  /-- MRC, MCR: an unassigned opcode1 is UNPREDICTABLE (R95, R104 condition 2). Safe. -/
  | opcode1Unassigned
  /-- MRC, MCR of c0 and c1: CRm other than c0 is UNPREDICTABLE (R98, R104 condition 3). Safe. -/
  | crmNotC0
  /-- MCR: writing primary register 0 is UNPREDICTABLE (R152, R104 condition 5). Safe. -/
  | idRegisterWrite
  /-- MRC, MCR of c1 with opcode2 3 to 7: RESERVED (R181, R104 condition 6). Safe. -/
  | controlSelectorReserved
  /-- MRC, MCR of c4: reserved (R243, R104 condition 7). Safe. -/
  | register4Reserved
  /-- MRC, MCR of c12 and c14 before v6: UNPREDICTABLE (R251, R253, R104 condition 8). Safe. -/
  | register12Or14BeforeV6
  /-- MCR to the Coprocessor access register: 0b10 for an implemented coprocessor is UNPREDICTABLE (R225, R104
  condition 9). Safe. -/
  | accessRightsReserved
  /-- MRC, MCR, MRRC, MCRR: the handler's verdict is Unpredictable (R145). Safe. -/
  | handlerUnpredictable
  /-- A coprocessor instruction between the write of its access rights and the PrefetchFlush (R226). Safe. -/
  | accessRightsUnsynchronised
  /-- A coprocessor instruction of a group whose access rights differ (R228). Safe. -/
  | coprocessorGroupUnequal
  /-- A coprocessor instruction whose effective rights are 0b10, which R229 says cannot occur (log 27). Safe. -/
  | effectiveRightsReserved
  /-- `step`: coprocessor `n` is granted the instruction, and what it does is outside the spec (R229). Safe. -/
  | coprocessorOutsideSpec (n : BitVec 4)
  /-- `step`: CP14 instructions are not governed by the chapter (R273, R279). Safe. -/
  | cp14OutsideSpec
  /-- `step`: an instruction that is no coprocessor instruction is outside the spec (00_scope.md section 3). Safe. -/
  | coreInstructionOutsideSpec
  /-- `step`: the core is not in ARM state, and the model runs ARM state only (D17; log 24). Safe. -/
  | notArmState
  /-- A data access, a load to the PC, or a call of a handler to which the F bit means something, that consumes a Control
  register bit written and not yet in effect (R184; log 33). Safe. -/
  | controlBitUnsynchronised
  /-- An exception return in User or System mode, which have no saved status (R271; log 29). Safe. -/
  | noSavedStatus
  deriving DecidableEq, Repr

/-- The machine right after reset in a given implementation (R45 to R52, R270, R291). -/
def State.resetWith (c : Cfg) : State where
  cfg := c
  regs := Vector.replicate 30 0
  spsr := Vector.replicate 5 0
  pc := c.resetPc
  cpsr := c.resetCpsr
  cr := c.resetCr
  crEff := c.resetCr
  acr := c.resetAcr
  cpacr := 0
  cpacrEff := 0
  ext := c.ext.resetState
  mem := []
  draws := 0

/-- The machine right after reset, in profile T (log 5). -/
def State.reset : State :=
  State.resetWith Cfg.profileT

end Sys2Proof.Machine
end

