-- ==== Sys2Proof/Machine/Flags.lean ====
section
/-! DEFINITION. The status register: the mode, the condition flags, the condition test of R92. No CP15 instruction writes a
flag (R43), so there is no flag computation in the spec. -/

namespace Sys2Proof.Machine

open Sys2Proof

/-- The mode field, CPSR[4:0] (R269). -/
def State.modeBits (s : State) : BitVec 5 := s.cpsr.extractLsb' 0 5

/-- The modes of R262 and R272, by their CPSR[4:0] values (R269, R270; User and System PRESUMED, log 12). -/
def userMode : BitVec 5 := 0b10000
def fiqMode : BitVec 5 := 0b10001
def irqMode : BitVec 5 := 0b10010
def supervisorMode : BitVec 5 := 0b10011
def abortMode : BitVec 5 := 0b10111
def undefinedMode : BitVec 5 := 0b11011
def systemMode : BitVec 5 := 0b11111

/-- One of the seven modes. -/
def legalMode (m : BitVec 5) : Bool :=
  [userMode, fiqMode, irqMode, supervisorMode, abortMode, undefinedMode, systemMode].contains m

/-- `InUserMode()` (R42); `InPrivilegedMode()` is its negation. -/
def State.inUserMode (s : State) : Bool := s.modeBits == userMode

/-- CPSR bit 5 (R43). -/
def State.thumb (s : State) : Bool := s.cpsr.getLsbD 5

/-- CPSR bit 6 (R269). -/
def State.fiqMasked (s : State) : Bool := s.cpsr.getLsbD 6

/-- CPSR bit 7 (R269). -/
def State.irqMasked (s : State) : Bool := s.cpsr.getLsbD 7

/-- CPSR bit 9 (R43). -/
def State.dataEndianBit (s : State) : Bool := s.cpsr.getLsbD 9

def State.flagN (s : State) : Bool := s.cpsr.getLsbD 31
def State.flagZ (s : State) : Bool := s.cpsr.getLsbD 30
def State.flagC (s : State) : Bool := s.cpsr.getLsbD 29
def State.flagV (s : State) : Bool := s.cpsr.getLsbD 28

/-- `ConditionPassed(cond)` (R92). -/
def condPassed (c : Cond) (s : State) : Bool :=
  match c with
  | .eq => s.flagZ
  | .ne => !s.flagZ
  | .cs => s.flagC
  | .cc => !s.flagC
  | .mi => s.flagN
  | .pl => !s.flagN
  | .vs => s.flagV
  | .vc => !s.flagV
  | .hi => s.flagC && !s.flagZ
  | .ls => !s.flagC || s.flagZ
  | .ge => s.flagN == s.flagV
  | .lt => s.flagN != s.flagV
  | .gt => !s.flagZ && s.flagN == s.flagV
  | .le => s.flagZ || s.flagN != s.flagV
  | .al => true

/-- The condition of a word whose cond field may be 0b1111, which is unconditional (R102, R135). -/
def condFieldPassed (c : Option Cond) (s : State) : Bool :=
  match c with
  | none => true
  | some c => condPassed c s

end Sys2Proof.Machine
end

