-- ==== Sys2Proof/Machine/Operands.lean ====
section
/-! DEFINITION. The operand forms: the ARM register a 4-bit field names in the current mode (R40, R96), the saved status of a
mode (R269), the CP15 register address (R21), and the encoding-level UNPREDICTABLE conditions on them (R104, R142). -/

namespace Sys2Proof.Machine

open Sys2Proof

/-- Where R`i`, `i` in 0 to 14, is in mode `m` (R40, R269; log 12). R15 is no operand: every instruction that could name
it is refused first (R96, R123). -/
def regSlot (m : BitVec 5) (i : BitVec 4) : Fin 30 :=
  if i.toNat < 8 then Fin.ofNat 30 i.toNat
  else if m = fiqMode then Fin.ofNat 30 (i.toNat + 7)
  else if i.toNat < 13 then Fin.ofNat 30 i.toNat
  else if m = supervisorMode then Fin.ofNat 30 (i.toNat + 9)
  else if m = abortMode then Fin.ofNat 30 (i.toNat + 11)
  else if m = irqMode then Fin.ofNat 30 (i.toNat + 13)
  else if m = undefinedMode then Fin.ofNat 30 (i.toNat + 15)
  else Fin.ofNat 30 i.toNat

/-- `x[i]`, in the current mode (00_scope.md section 5). -/
def State.readReg (s : State) (i : BitVec 4) : Word :=
  s.regs[regSlot s.modeBits i]

/-- `x[i] <- v`, in the current mode (00_scope.md section 5). -/
def State.writeReg (s : State) (i : BitVec 4) (v : Word) : State :=
  { s with regs := s.regs.set (regSlot s.modeBits i).val v (regSlot s.modeBits i).isLt }

/-- The two words of an MRRC, to Rd and Rn; one register in both places gets a free value (R124; log 21). -/
def State.writeRegPair (s : State) (rd rn : BitVec 4) (v1 v2 : Word) : State :=
  if rd = rn then s.writeReg rd (Config.mrrcSameRegister v1 v2) else (s.writeReg rd v1).writeReg rn v2

/-- The saved status of a mode; User and System mode have none (R269, R271). -/
def spsrSlot (m : BitVec 5) : Option (Fin 5) :=
  if m = fiqMode then some 0
  else if m = supervisorMode then some 1
  else if m = abortMode then some 2
  else if m = irqMode then some 3
  else if m = undefinedMode then some 4
  else none

/-- The encoding-level UNPREDICTABLE conditions on a register address: 2, 3, 5, 6, 7 and 8 of R104, tested before
condition and mode (R142 step 2). Condition 4 never applies to primary registers 0 and 1 (R104). -/
def addressRefusal (c : Cfg) (d : Direction) (a : RegAddr) : Option Refusal :=
  if a.opc1 ≠ 0 then (if c.opc1Assigned a.opc1 then none else some .opcode1Unassigned)
  else if a.crn = 0 then
    match d with
    | .write => some .idRegisterWrite
    | .read => if a.crm ≠ 0 then some .crmNotC0 else none
  else if a.crn = 1 then
    if a.crm ≠ 0 then some .crmNotC0
    else if 3 ≤ a.opc2.toNat then some .controlSelectorReserved
    else none
  else if a.crn = 4 then some .register4Reserved
  else if (a.crn = 12 ∨ a.crn = 14) ∧ c.arch = .preV6 then some .register12Or14BeforeV6
  else none

/-- R142 step 2 for an MRC or MCR: R15 as Rd (R96), then the address. -/
def encodingRefusal (c : Cfg) (d : Direction) (rd : BitVec 4) (a : RegAddr) : Option Refusal :=
  if rd = 15 then some .rdIsPc else addressRefusal c d a

end Sys2Proof.Machine
end

