-- ==== Sys2Proof/Machine/Ops.lean ====
section
/-! DEFINITION. The named operations over memory and the machine: bytes and words of main memory, the advance of the pc, the
synchronisation of the hidden CP15 copies, taking an exception and returning from one, the Control register bits in effect,
and calling the handler. -/

namespace Sys2Proof.Machine

open Sys2Proof

/-! ### Main memory (R60) -/

/-- The byte at an address; `none` where memory holds none (R304; log 10). -/
def Memory.readByte : Memory → Nat → Option Byte
  | [], _ => none
  | (a, b) :: m, k => if a = k then some b else Memory.readByte m k

/-- One byte stored, keeping addresses strictly rising. -/
def Memory.writeByte : Memory → Nat → Byte → Memory
  | [], k, v => [(k, v)]
  | (a, b) :: m, k, v =>
    if k < a then (k, v) :: (a, b) :: m
    else if k = a then (k, v) :: m
    else (a, b) :: Memory.writeByte m k v

/-- Addresses strictly rise from `lo` and are 32-bit addresses. -/
def Memory.risesFrom : Nat → Memory → Bool
  | _, [] => true
  | lo, (a, _) :: m => lo ≤ a && a < 2 ^ 32 && Memory.risesFrom (a + 1) m

/-- The canonical form: an unlisted address holds no byte, so no entry can equal what one reads as. -/
def Memory.wf (m : Memory) : Bool :=
  Memory.risesFrom 0 m

/-- The word at an address, least significant byte first (log 11). -/
def Memory.readWord (m : Memory) (k : Nat) : Option Word :=
  match m.readByte k, m.readByte (k + 1), m.readByte (k + 2), m.readByte (k + 3) with
  | some b0, some b1, some b2, some b3 => some (wordOfBytes b0 b1 b2 b3)
  | _, _, _, _ => none

/-- A word stored, least significant byte first (log 11). No instruction does this (R274): it is how a program is placed. -/
def Memory.writeWord (m : Memory) (k : Nat) (w : Word) : Memory :=
  (((m.writeByte k (field w 0 8)).writeByte (k + 1) (field w 8 8)).writeByte (k + 2) (field w 16 8)).writeByte (k + 3)
    (field w 24 8)

/-! ### The program counter (R41) -/

/-- `a + k`; past the top of the address space a free word-aligned address (R41, D15; log 9). -/
def addressAfter (a : Word) (k : Nat) (n : Nat) : Word :=
  if a.toNat + k < 2 ^ 32 then a + BitVec.ofNat 32 k else Config.freeAddress n &&& ~~~3#32

/-- `pc <- pc + 4` (R41, R263): what every instruction does that completes, and all that one does whose condition failed. -/
def State.advance (s : State) : State :=
  { s with
    pc := addressAfter s.pc 4 s.draws
    draws := s.draws + 1 }

/-! ### The hidden copies (R36, R79) -/

/-- What PrefetchFlush, exception entry and exception return do: the written values come into effect (R79). -/
def State.synchronise (s : State) : State :=
  { s with
    crEff := s.cr
    cpacrEff := s.cpacr }

/-! ### Exceptions (R260 to R271) -/

/-- The exceptions of R262 but reset, which saves nothing (R270). A Data Abort carries the address it records (R261). -/
inductive Exc where
  | undefinedInstruction
  | softwareInterrupt
  | prefetchAbort
  | dataAbort (addr : Word)
  | irq
  | fiq
  deriving DecidableEq, Repr

/-- How the core enters an exception (P22). -/
def excEntry (c : CoreExc) : Exc → ExcEntry
  | .undefinedInstruction => c.undefinedInstruction
  | .softwareInterrupt => c.softwareInterrupt
  | .prefetchAbort => c.prefetchAbort
  | .dataAbort _ => c.dataAbort
  | .irq => c.irq
  | .fiq => c.fiq

/-- How this core enters an exception. -/
def State.entry (s : State) (e : Exc) : ExcEntry :=
  excEntry s.cfg.coreExc e

/-- `VectorBase()` (R197). -/
def State.vectorBase (s : State) : Word :=
  vectorRange (s.crEff.getLsbD 13)

/-- `IRQVector()` and `FIQVector()` (R206); with VE = 1 the address the mechanism answers (log 17). -/
def State.interruptVector (s : State) (i : Interrupt) : Word :=
  if s.crEff.getLsbD 24 then Config.veVector i s.draws &&& ~~~3#32
  else
    match i with
    | .irq => s.vectorBase + 0x18
    | .fiq => s.vectorBase + 0x1C

/-- `Vector(e)` (R262). -/
def State.vector (s : State) (e : Exc) : Word :=
  match e with
  | .irq => s.interruptVector .irq
  | .fiq => s.interruptVector .fiq
  | .undefinedInstruction => s.vectorBase + vectorOffset s.cfg.coreExc.undefinedInstructionVector
  | .softwareInterrupt => s.vectorBase + vectorOffset s.cfg.coreExc.softwareInterruptVector
  | .prefetchAbort => s.vectorBase + vectorOffset s.cfg.coreExc.prefetchAbortVector
  | .dataAbort _ => s.vectorBase + vectorOffset s.cfg.coreExc.dataAbortVector

/-- What an exception leaves of the state the handler owns. The fault status and fault address registers are part of it, and
an abort records its cause and its address there (R244, R245, R261); what they then hold is in no source (R66), so that it is
a free value (DESIGN CHOICE, log 34). The other exceptions record nothing (R260, R268). -/
def State.extAfter (s : State) (e : Exc) : ExtState :=
  match e with
  | .dataAbort addr => Config.extDataAbort s.ext addr s.draws
  | .prefetchAbort => Config.extPrefetchAbort s.ext s.pc s.draws
  | .undefinedInstruction | .softwareInterrupt | .irq | .fiq => s.ext

/-- TAKING AN EXCEPTION (R268, R269): R14 and SPSR of the mode entered, CPSR, the vector and the E-bit from the CR_EFF in
effect, what an abort records, and then the synchronisation. -/
def State.takeException (s : State) (e : Exc) : State :=
  { s with
    regs := s.regs.set (regSlot (s.entry e).mode.bits 14).val (addressAfter s.pc (s.entry e).linkOffset s.draws)
      (regSlot (s.entry e).mode.bits 14).isLt
    spsr := s.spsr.set (s.entry e).mode.spsrIndex.val s.cpsr (s.entry e).mode.spsrIndex.isLt
    cpsr := entryStatus (s.entry e).toEntryStatus (s.crEff.getLsbD 25) s.cpsr
    pc := s.vector e
    crEff := s.cr
    cpacrEff := s.cpacr
    ext := s.extAfter e
    draws := s.draws + 1 }

/-- THE RETURN (R271): CPSR from the mode's SPSR, in the bits the core's return restores (all of them by default, P22), the pc
from its R14 less `back` (0 to go on, 4 to re-execute the instruction of an Undefined Instruction exception), and the
synchronisation (log 29). -/
def State.exceptionReturn (s : State) (back : Word) : Host.Outcome State Fault Refusal :=
  match spsrSlot s.modeBits with
  | none => .refused .noSavedStatus
  | some k =>
    .next { s with
      cpsr := (s.spsr[k] &&& s.cfg.coreExc.returnMask) ||| (s.cpsr &&& ~~~s.cfg.coreExc.returnMask)
      pc := s.readReg 14 - back
      crEff := s.cr
      cpacrEff := s.cpacr }

/-- `raise UndefinedInstruction()` (R260, R269). -/
def undefinedInstruction (s : State) : Host.Outcome State Fault Refusal :=
  .next (s.takeException .undefinedInstruction)

/-! ### The exported bits (R184 to R208) -/

/-- The Control register bits by name (R26). -/
inductive CrBit where
  | m
  | a
  | c
  | w
  | b
  | s
  | r
  | f
  | z
  | i
  | v
  | rr
  | l4
  | fi
  | u
  | xp
  | ve
  | ee
  | l2
  deriving DecidableEq, Repr

/-- R26. -/
def CrBit.position : CrBit → Nat
  | .m => 0
  | .a => 1
  | .c => 2
  | .w => 3
  | .b => 7
  | .s => 8
  | .r => 9
  | .f => 10
  | .z => 11
  | .i => 12
  | .v => 13
  | .rr => 14
  | .l4 => 15
  | .fi => 21
  | .u => 22
  | .xp => 23
  | .ve => 24
  | .ee => 25
  | .l2 => 26

/-- The bit is written and not yet in effect: a consumer of it has no modelled meaning (R184). -/
def State.unsynchronised (s : State) (bit : CrBit) : Bool :=
  s.cr.getLsbD bit.position != s.crEff.getLsbD bit.position

/-- The value of a bit the rest of the processor acts on: as in effect, a FIXED1 bit 1 (R27, R36; log 16). -/
def State.exported (s : State) (bit : CrBit) : Bool :=
  (s.crEff ||| s.cfg.onesMask).getLsbD bit.position

/-! ### The handler (R145) -/

/-- The handler's answer to a call, with the state after it. -/
inductive ExtAnswer where
  | done (s : State)
  | undefined
  | unpredictable (r : Refusal)
  deriving DecidableEq, Repr

/-- What the ACR bits and the F bit in effect mean to the handler, in an implementation that gives them a meaning (P12, P16;
log 33). -/
def State.implControls (s : State) : ImplControls where
  acr := if s.cfg.acrMeaning = .implementationDefined then s.acr else 0
  f := s.cfg.fMeaning = .implementationDefined && s.exported .f

/-- A call that consults an F bit which is written and not in effect: it has no modelled meaning (R184; log 33). -/
def State.fUnsettled (s : State) : Bool :=
  s.cfg.fMeaning = .implementationDefined && s.unsynchronised .f

/-- The owned state after a call the handler serves (R145; log 6). -/
def State.moveExt (s : State) (call : ExtCall) : State :=
  { s with ext := Config.extNext s.ext s.implControls call }

/-- The (first) word the handler answers to a call (R145; log 6). -/
def State.extValue (s : State) (call : ExtCall) : Word :=
  Config.extValue s.ext s.implControls call

/-- The second word of an MRRC (R124; log 6). -/
def State.extValue2 (s : State) (call : ExtCall) : Word :=
  Config.extValue2 s.ext s.implControls call

/-- A call of the handler (R145). -/
def extAnswer (call : ExtCall) (s : State) : ExtAnswer :=
  match s.cfg.extRule call.target with
  | .unpredictable => .unpredictable .handlerUnpredictable
  | .undefined => .undefined
  | .noEffect => .done s
  | .prefetchFlush => .done s.synchronise
  | .served => if s.fUnsettled then .unpredictable .controlBitUnsynchronised else .done (s.moveExt call)
  | .byHandler =>
    if s.fUnsettled then .unpredictable .controlBitUnsynchronised
    else
      match Config.extVerdict s.ext s.implControls call with
      | .done => .done (s.moveExt call)
      | .undefined => .undefined
      | .unpredictable => .unpredictable .handlerUnpredictable

end Sys2Proof.Machine
end

