-- ==== Sys2Proof/Machine/Coprocessor.lean ====
section
/-! DEFINITION. The coprocessor access check (R229), which the core applies to the instructions of coprocessors 0 to 13. -/

namespace Sys2Proof.Machine

open Sys2Proof

/-- What the check answers. -/
inductive AccessCheck where
  | proceed
  | undefined
  | unpredictable (r : Refusal)
  deriving DecidableEq, Repr

/-- Coprocessor `n` is in a group whose effective fields differ (R228). -/
def groupUnequal (c : Cfg) (eff : Word) (n : Nat) : Bool :=
  c.cpGroups.any fun g => g.any (fun m => m.val == n) && g.any (fun m => accessRights eff m.val != accessRights eff n)

/-- `CoprocAccessCheck(n)` (R229). -/
def coprocAccessCheck (n : Nat) (s : State) : AccessCheck :=
  if accessRights s.cpacr n ≠ accessRights s.cpacrEff n then .unpredictable .accessRightsUnsynchronised
  else if groupUnequal s.cfg s.cpacrEff n then .unpredictable .coprocessorGroupUnequal
  else if accessRights s.cpacrEff n = 0b00 then .undefined
  else if accessRights s.cpacrEff n = 0b01 then (if s.inUserMode then .undefined else .proceed)
  else if accessRights s.cpacrEff n = 0b11 then .proceed
  else .unpredictable .effectiveRightsReserved

/-- A coprocessor instruction for coprocessor `n`, 0 to 14 (R229; R220 and R279 for 14; log 19). -/
def execCoprocessor (n : BitVec 4) (cond : Option Cond) (s : State) : Host.Outcome State Fault Refusal :=
  if !condFieldPassed cond s then .next s.advance
  else if 14 ≤ n.toNat then .refused .cp14OutsideSpec
  else
    match coprocAccessCheck n.toNat s with
    | .proceed => .refused (.coprocessorOutsideSpec n)
    | .undefined => undefinedInstruction s
    | .unpredictable r => .refused r

/-- The P = U = N = W = 0 corner of LDC and STC, UNDEFINED for every coprocessor (R102; log 19). -/
def execCoprocessorCorner (cond : Option Cond) (s : State) : Host.Outcome State Fault Refusal :=
  if condFieldPassed cond s then undefinedInstruction s else .next s.advance

end Sys2Proof.Machine
end

