-- ==== Sys2Proof/Machine/Cp15.lean ====
section
/-! DEFINITION. The CP15 register space: reading and writing the control registers (R28, R29, R184, R224, R225) and the
dispatch of R143 and R144. -/

namespace Sys2Proof.Machine

open Sys2Proof

/-- `CR_read()` (R28, R183): RW bits as stored, FIXED1 bits 1, FIXED0 bits 0, UNP bits drawn. -/
def State.crRead (s : State) : Word :=
  (s.cr &&& s.cfg.rwMask) ||| s.cfg.onesMask ||| (Config.draw32 s.draws &&& s.cfg.unpMask)

/-- `CR_write(v)` (R28, R184): the RW bits are stored; with immediate visibility they are in effect at once. -/
def State.crWrite (s : State) (v : Word) : State :=
  { s with
    cr := v &&& s.cfg.rwMask
    crEff := match s.cfg.crVisibility with
      | .immediate => v &&& s.cfg.rwMask
      | .afterFlush => s.crEff }

/-- The write of the Auxiliary control register (R216; C12). -/
def State.acrWrite (s : State) (v : Word) : State :=
  { s with acr := v &&& s.cfg.acrWmask }

/-- `CPACR_read()` (R224): the written value, bits[31:28] drawn. -/
def State.cpacrRead (s : State) : Word :=
  (s.cpacr &&& s.cfg.implMask) ||| (Config.draw4 s.draws ++ 0#28)

/-- A value has 0b10 in the field of some coprocessor 0 to 13 (R31). -/
def hasReservedRights (w : Word) : Bool :=
  (List.range 14).any fun n => accessRights w n == 0b10

/-- The stored value of a write (R225). The field of an unimplemented coprocessor is 0b00 in it. -/
def State.cpacrWrite (s : State) (v : Word) : State :=
  { s with cpacr := v &&& s.cfg.implMask }

/-- The software rule of R185 on a value written to the Control register after a read of it. -/
def sbzpOk (v lastRead : Word) : Bool :=
  (v.extractLsb' 27 5 == 0 || v.extractLsb' 27 5 == lastRead.extractLsb' 27 5) &&
  (!v.getLsbD 20 || v.getLsbD 20 == lastRead.getLsbD 20)

/-- What `CP15Read` returns, with the state after the handler's part in it (R143). -/
inductive ReadVerdict where
  | value (v : Word) (s : State)
  | undefined
  | unpredictable (r : Refusal)
  deriving DecidableEq, Repr

/-- What `CP15Write` returns (R144). -/
inductive WriteVerdict where
  | done (s : State)
  | undefined
  | unpredictable (r : Refusal)
  deriving DecidableEq, Repr

/-- `Cfg.EXT.read` (R145). -/
def extRead (a : RegAddr) (s : State) : ReadVerdict :=
  match extAnswer ⟨.read a, 0, 0⟩ s with
  | .done s' => .value (s.extValue ⟨.read a, 0, 0⟩) s'
  | .undefined => .undefined
  | .unpredictable r => .unpredictable r

/-- `Cfg.EXT.write` (R145). -/
def extWrite (a : RegAddr) (v : Word) (s : State) : WriteVerdict :=
  match extAnswer ⟨.write a, v, 0⟩ s with
  | .done s' => .done s'
  | .undefined => .undefined
  | .unpredictable r => .unpredictable r

/-- A read of primary register 1 (R143, R183, R215, R224). -/
def readControl (opc2 : BitVec 3) (s : State) : ReadVerdict :=
  match opc2.toNat with
  | 0 => .value s.crRead s
  | 1 => .value s.acr s
  | 2 => .value s.cpacrRead s
  | _ => .unpredictable .controlSelectorReserved

/-- A write of primary register 1 (R144, R184, R216, R225). -/
def writeControl (opc2 : BitVec 3) (v : Word) (s : State) : WriteVerdict :=
  match opc2.toNat with
  | 0 => .done (s.crWrite v)
  | 1 => .done (s.acrWrite v)
  | 2 =>
    if hasReservedRights (v &&& s.cfg.implMask) then .unpredictable .accessRightsReserved
    else .done (s.cpacrWrite v)
  | _ => .unpredictable .controlSelectorReserved

/-- `CP15Read` (R143). -/
def cp15Read (a : RegAddr) (s : State) : ReadVerdict :=
  match addressRefusal s.cfg .read a with
  | some r => .unpredictable r
  | none =>
    if a.opc1 ≠ 0 then extRead a s
    else if a.crn = 0 then .value (s.cfg.idRegister a.opc2) s
    else if a.crn = 1 then readControl a.opc2 s
    else if a.crn = 12 ∨ a.crn = 14 then .undefined
    else extRead a s

/-- `CP15Write` (R144). -/
def cp15Write (a : RegAddr) (v : Word) (s : State) : WriteVerdict :=
  match addressRefusal s.cfg .write a with
  | some r => .unpredictable r
  | none =>
    if a.opc1 ≠ 0 then extWrite a v s
    else if a.crn = 1 then writeControl a.opc2 v s
    else if a.crn = 12 ∨ a.crn = 14 then .undefined
    else extWrite a v s

end Sys2Proof.Machine
end

