-- ==== Sys2Proof/Machine/RegisterAccess.lean ====
section
/-! DEFINITION. The register access instructions (R121 to R124) in the order of tests of R142, which every MRC, MCR, MRRC and
MCRR row shares, and the meanings of the four instruction-level rows. -/

namespace Sys2Proof.Machine

open Sys2Proof

/-- An instruction when CP15 is absent (R141): Undefined Instruction in every mode if its condition passes, else nothing. -/
def withoutCp15 (cond : Cond) (s : State) : Host.Outcome State Fault Refusal :=
  if condPassed cond s then undefinedInstruction s else .next s.advance

/-- An MRC that has passed the tests of R142 up to the mode: the access. -/
def readAccess (rd : BitVec 4) (a : RegAddr) (s : State) : Host.Outcome State Fault Refusal :=
  match cp15Read a s with
  | .value v s' => .next (s'.writeReg rd v).advance
  | .undefined => undefinedInstruction s
  | .unpredictable r => .refused r

/-- An MCR that has passed the tests of R142 up to the mode: the access. Rd is read once, before the write (R122). -/
def writeAccess (rd : BitVec 4) (a : RegAddr) (s : State) : Host.Outcome State Fault Refusal :=
  match cp15Write a (s.readReg rd) s with
  | .done s' => .next s'.advance
  | .undefined => undefinedInstruction s
  | .unpredictable r => .refused r

/-- MRC (R121, R142). No read is in the user-access list (R138). -/
def mrcOp (cond : Cond) (rd : BitVec 4) (a : RegAddr) (s : State) : Host.Outcome State Fault Refusal :=
  if s.cfg.cp15Absent then withoutCp15 cond s
  else
    match encodingRefusal s.cfg .read rd a with
    | some r => .refused r
    | none =>
      if !condPassed cond s then .next s.advance
      else if s.inUserMode then undefinedInstruction s
      else readAccess rd a s

/-- MCR (R122, R142). -/
def mcrOp (cond : Cond) (rd : BitVec 4) (a : RegAddr) (s : State) : Host.Outcome State Fault Refusal :=
  if s.cfg.cp15Absent then withoutCp15 cond s
  else
    match encodingRefusal s.cfg .write rd a with
    | some r => .refused r
    | none =>
      if !condPassed cond s then .next s.advance
      else if s.inUserMode && !s.cfg.userAllows (.write a) then undefinedInstruction s
      else writeAccess rd a s

/-- MCRR past the tests: `Cfg.EXT.mcrr(opcode, CRm, x[Rd], x[Rn])` (R123). -/
def mcrrAccess (rn rd opcode crm : BitVec 4) (s : State) : Host.Outcome State Fault Refusal :=
  match extAnswer ⟨.mcrr opcode crm, s.readReg rd, s.readReg rn⟩ s with
  | .done s' => .next s'.advance
  | .undefined => undefinedInstruction s
  | .unpredictable r => .refused r

/-- MRRC past the tests: two words of `Cfg.EXT.mrrc(opcode, CRm)` to x[Rd] and x[Rn] (R124). -/
def mrrcAccess (rn rd opcode crm : BitVec 4) (s : State) : Host.Outcome State Fault Refusal :=
  match extAnswer ⟨.mrrc opcode crm, 0, 0⟩ s with
  | .done s' =>
    .next (s'.writeRegPair rd rn (s.extValue ⟨.mrrc opcode crm, 0, 0⟩) (s.extValue2 ⟨.mrrc opcode crm, 0, 0⟩)).advance
  | .undefined => undefinedInstruction s
  | .unpredictable r => .refused r

/-- MCRR (R123). -/
def mcrrOp (cond : Cond) (rn rd opcode crm : BitVec 4) (s : State) : Host.Outcome State Fault Refusal :=
  if s.cfg.cp15Absent then withoutCp15 cond s
  else if rd = 15 ∨ rn = 15 then .refused .rdIsPc
  else if !condPassed cond s then .next s.advance
  else if s.inUserMode && !s.cfg.userAllows (.mcrr opcode crm) then undefinedInstruction s
  else mcrrAccess rn rd opcode crm s

/-- MRRC (R124): no MRRC is in the user-access list. -/
def mrrcOp (cond : Cond) (rn rd opcode crm : BitVec 4) (s : State) : Host.Outcome State Fault Refusal :=
  if s.cfg.cp15Absent then withoutCp15 cond s
  else if rd = 15 ∨ rn = 15 then .refused .rdIsPc
  else if !condPassed cond s then .next s.advance
  else if s.inUserMode then undefinedInstruction s
  else mrrcAccess rn rd opcode crm s

/-- R121. -/
def execMrc (cond : Cond) (opc1 : BitVec 3) (crn rd : BitVec 4) (opc2 : BitVec 3) (crm : BitVec 4) (s : State) :
    Host.Outcome State Fault Refusal :=
  mrcOp cond rd ⟨opc1, crn, crm, opc2⟩ s

/-- R122. -/
def execMcr (cond : Cond) (opc1 : BitVec 3) (crn rd : BitVec 4) (opc2 : BitVec 3) (crm : BitVec 4) (s : State) :
    Host.Outcome State Fault Refusal :=
  mcrOp cond rd ⟨opc1, crn, crm, opc2⟩ s

/-- R124. -/
def execMrrc (cond : Cond) (rn rd opcode crm : BitVec 4) (s : State) : Host.Outcome State Fault Refusal :=
  mrrcOp cond rn rd opcode crm s

/-- R123. -/
def execMcrr (cond : Cond) (rn rd opcode crm : BitVec 4) (s : State) : Host.Outcome State Fault Refusal :=
  mcrrOp cond rn rd opcode crm s

end Sys2Proof.Machine
end

