-- ==== Sys2Proof/Machine/Barriers.lean ====
section
/-! DEFINITION. The three barrier operations of R78, writes of c7 the handler serves (R144); the value in Rd is ignored. In v6 they
are user-access operations (R138, R139). -/

namespace Sys2Proof.Machine

open Sys2Proof

/-- c7, c5, 4: PrefetchFlush (R78, R79). -/
def execPrefetchFlush (cond : Cond) (rd : BitVec 4) (s : State) : Host.Outcome State Fault Refusal :=
  mcrOp cond rd prefetchFlushAddr s

/-- c7, c10, 4: Data synchronization barrier (R78). -/
def execDataSyncBarrier (cond : Cond) (rd : BitVec 4) (s : State) : Host.Outcome State Fault Refusal :=
  mcrOp cond rd dataSyncBarrierAddr s

/-- c7, c10, 5: Data memory barrier (R78). -/
def execDataMemBarrier (cond : Cond) (rd : BitVec 4) (s : State) : Host.Outcome State Fault Refusal :=
  mcrOp cond rd dataMemBarrierAddr s

end Sys2Proof.Machine
end

