-- ==== Sys2Proof/Machine/ControlRegisters.lean ====
section
/-! DEFINITION. Primary register 1 (42_reg1_control.md): the Control, Auxiliary control and Coprocessor access registers. -/

namespace Sys2Proof.Machine

open Sys2Proof

/-- c1, c0, 0: Control register, read (R183). -/
def execMrcCr (cond : Cond) (rd : BitVec 4) (s : State) : Host.Outcome State Fault Refusal :=
  mrcOp cond rd ⟨0, 1, 0, 0⟩ s

/-- c1, c0, 0: Control register, write (R184). -/
def execMcrCr (cond : Cond) (rd : BitVec 4) (s : State) : Host.Outcome State Fault Refusal :=
  mcrOp cond rd ⟨0, 1, 0, 0⟩ s

/-- c1, c0, 1: Auxiliary control register, read (R215). -/
def execMrcAcr (cond : Cond) (rd : BitVec 4) (s : State) : Host.Outcome State Fault Refusal :=
  mrcOp cond rd ⟨0, 1, 0, 1⟩ s

/-- c1, c0, 1: Auxiliary control register, write (R216). -/
def execMcrAcr (cond : Cond) (rd : BitVec 4) (s : State) : Host.Outcome State Fault Refusal :=
  mcrOp cond rd ⟨0, 1, 0, 1⟩ s

/-- c1, c0, 2: Coprocessor access register, read (R224). -/
def execMrcCpacr (cond : Cond) (rd : BitVec 4) (s : State) : Host.Outcome State Fault Refusal :=
  mrcOp cond rd ⟨0, 1, 0, 2⟩ s

/-- c1, c0, 2: Coprocessor access register, write (R225). -/
def execMcrCpacr (cond : Cond) (rd : BitVec 4) (s : State) : Host.Outcome State Fault Refusal :=
  mcrOp cond rd ⟨0, 1, 0, 2⟩ s

end Sys2Proof.Machine
end

