-- ==== Sys2Proof/Machine/IdCodes.lean ====
section
/-! DEFINITION. Primary register 0, the ID codes (41_reg0_id_codes.md): the eight reads. A write of primary register 0 is a
word of `mcr` and refused there (R152). -/

namespace Sys2Proof.Machine

open Sys2Proof

/-- c0, c0, 0: Main ID register (R155, R151). -/
def execMrcMidr (cond : Cond) (rd : BitVec 4) (s : State) : Host.Outcome State Fault Refusal :=
  mrcOp cond rd ⟨0, 0, 0, 0⟩ s

/-- c0, c0, 1: Cache type register (R163, R151). -/
def execMrcCtr (cond : Cond) (rd : BitVec 4) (s : State) : Host.Outcome State Fault Refusal :=
  mrcOp cond rd ⟨0, 0, 0, 1⟩ s

/-- c0, c0, 2: TCM type register (R166, R151). -/
def execMrcTcmtr (cond : Cond) (rd : BitVec 4) (s : State) : Host.Outcome State Fault Refusal :=
  mrcOp cond rd ⟨0, 0, 0, 2⟩ s

/-- c0, c0, 3: TLB type register (R167, R151). -/
def execMrcTlbtr (cond : Cond) (rd : BitVec 4) (s : State) : Host.Outcome State Fault Refusal :=
  mrcOp cond rd ⟨0, 0, 0, 3⟩ s

/-- c0, c0, 4: MPU type register (R168, R151). -/
def execMrcMpuir (cond : Cond) (rd : BitVec 4) (s : State) : Host.Outcome State Fault Refusal :=
  mrcOp cond rd ⟨0, 0, 0, 4⟩ s

/-- c0, c0, 5: a reserved selector (R169, R151). -/
def execMrcId5 (cond : Cond) (rd : BitVec 4) (s : State) : Host.Outcome State Fault Refusal :=
  mrcOp cond rd ⟨0, 0, 0, 5⟩ s

/-- c0, c0, 6: a reserved selector (R169, R151). -/
def execMrcId6 (cond : Cond) (rd : BitVec 4) (s : State) : Host.Outcome State Fault Refusal :=
  mrcOp cond rd ⟨0, 0, 0, 6⟩ s

/-- c0, c0, 7: a reserved selector (R169, R151). -/
def execMrcId7 (cond : Cond) (rd : BitVec 4) (s : State) : Host.Outcome State Fault Refusal :=
  mrcOp cond rd ⟨0, 0, 0, 7⟩ s

end Sys2Proof.Machine
end

