-- ==== Sys2Proof/Machine/SystemRegisters.lean ====
section
/-! DEFINITION. Primary registers 2 to 15 (43_reg2_to_15.md): the handler's, but for c4 (reserved) and c12, c14 (UNDEFINED from
v6), and an assigned opcode1 value, which is the handler's whatever CRn (R111, R143, R144). -/

namespace Sys2Proof.Machine

open Sys2Proof

/-- Register 2, Page Table Control, read (R241). -/
def execMrcC2 (cond : Cond) (opc1 : BitVec 3) (rd : BitVec 4) (opc2 : BitVec 3) (crm : BitVec 4) (s : State) :
    Host.Outcome State Fault Refusal :=
  mrcOp cond rd ⟨opc1, 2, crm, opc2⟩ s

/-- Register 2, Page Table Control, write (R241). -/
def execMcrC2 (cond : Cond) (opc1 : BitVec 3) (rd : BitVec 4) (opc2 : BitVec 3) (crm : BitVec 4) (s : State) :
    Host.Outcome State Fault Refusal :=
  mcrOp cond rd ⟨opc1, 2, crm, opc2⟩ s

/-- Register 3, Domain Access Control, read (R242). -/
def execMrcC3 (cond : Cond) (opc1 : BitVec 3) (rd : BitVec 4) (opc2 : BitVec 3) (crm : BitVec 4) (s : State) :
    Host.Outcome State Fault Refusal :=
  mrcOp cond rd ⟨opc1, 3, crm, opc2⟩ s

/-- Register 3, Domain Access Control, write (R242). -/
def execMcrC3 (cond : Cond) (opc1 : BitVec 3) (rd : BitVec 4) (opc2 : BitVec 3) (crm : BitVec 4) (s : State) :
    Host.Outcome State Fault Refusal :=
  mcrOp cond rd ⟨opc1, 3, crm, opc2⟩ s

/-- Register 4, reserved, read (R243). -/
def execMrcC4 (cond : Cond) (opc1 : BitVec 3) (rd : BitVec 4) (opc2 : BitVec 3) (crm : BitVec 4) (s : State) :
    Host.Outcome State Fault Refusal :=
  mrcOp cond rd ⟨opc1, 4, crm, opc2⟩ s

/-- Register 4, reserved, write (R243). -/
def execMcrC4 (cond : Cond) (opc1 : BitVec 3) (rd : BitVec 4) (opc2 : BitVec 3) (crm : BitVec 4) (s : State) :
    Host.Outcome State Fault Refusal :=
  mcrOp cond rd ⟨opc1, 4, crm, opc2⟩ s

/-- Register 5, Fault status, read (R244). -/
def execMrcC5 (cond : Cond) (opc1 : BitVec 3) (rd : BitVec 4) (opc2 : BitVec 3) (crm : BitVec 4) (s : State) :
    Host.Outcome State Fault Refusal :=
  mrcOp cond rd ⟨opc1, 5, crm, opc2⟩ s

/-- Register 5, Fault status, write (R244). -/
def execMcrC5 (cond : Cond) (opc1 : BitVec 3) (rd : BitVec 4) (opc2 : BitVec 3) (crm : BitVec 4) (s : State) :
    Host.Outcome State Fault Refusal :=
  mcrOp cond rd ⟨opc1, 5, crm, opc2⟩ s

/-- Register 6, Fault address, read (R245). -/
def execMrcC6 (cond : Cond) (opc1 : BitVec 3) (rd : BitVec 4) (opc2 : BitVec 3) (crm : BitVec 4) (s : State) :
    Host.Outcome State Fault Refusal :=
  mrcOp cond rd ⟨opc1, 6, crm, opc2⟩ s

/-- Register 6, Fault address, write (R245). -/
def execMcrC6 (cond : Cond) (opc1 : BitVec 3) (rd : BitVec 4) (opc2 : BitVec 3) (crm : BitVec 4) (s : State) :
    Host.Outcome State Fault Refusal :=
  mcrOp cond rd ⟨opc1, 6, crm, opc2⟩ s

/-- Register 7, Cache/write buffer control, read (R246). -/
def execMrcC7 (cond : Cond) (opc1 : BitVec 3) (rd : BitVec 4) (opc2 : BitVec 3) (crm : BitVec 4) (s : State) :
    Host.Outcome State Fault Refusal :=
  mrcOp cond rd ⟨opc1, 7, crm, opc2⟩ s

/-- Register 7, Cache/write buffer control, write (R246). -/
def execMcrC7 (cond : Cond) (opc1 : BitVec 3) (rd : BitVec 4) (opc2 : BitVec 3) (crm : BitVec 4) (s : State) :
    Host.Outcome State Fault Refusal :=
  mcrOp cond rd ⟨opc1, 7, crm, opc2⟩ s

/-- Register 8, TLB control, read (R247). -/
def execMrcC8 (cond : Cond) (opc1 : BitVec 3) (rd : BitVec 4) (opc2 : BitVec 3) (crm : BitVec 4) (s : State) :
    Host.Outcome State Fault Refusal :=
  mrcOp cond rd ⟨opc1, 8, crm, opc2⟩ s

/-- Register 8, TLB control, write (R247). -/
def execMcrC8 (cond : Cond) (opc1 : BitVec 3) (rd : BitVec 4) (opc2 : BitVec 3) (crm : BitVec 4) (s : State) :
    Host.Outcome State Fault Refusal :=
  mcrOp cond rd ⟨opc1, 8, crm, opc2⟩ s

/-- Register 9, Cache lockdown, read (R248). -/
def execMrcC9 (cond : Cond) (opc1 : BitVec 3) (rd : BitVec 4) (opc2 : BitVec 3) (crm : BitVec 4) (s : State) :
    Host.Outcome State Fault Refusal :=
  mrcOp cond rd ⟨opc1, 9, crm, opc2⟩ s

/-- Register 9, Cache lockdown, write (R248). -/
def execMcrC9 (cond : Cond) (opc1 : BitVec 3) (rd : BitVec 4) (opc2 : BitVec 3) (crm : BitVec 4) (s : State) :
    Host.Outcome State Fault Refusal :=
  mcrOp cond rd ⟨opc1, 9, crm, opc2⟩ s

/-- Register 10, TLB lockdown, read (R249). -/
def execMrcC10 (cond : Cond) (opc1 : BitVec 3) (rd : BitVec 4) (opc2 : BitVec 3) (crm : BitVec 4) (s : State) :
    Host.Outcome State Fault Refusal :=
  mrcOp cond rd ⟨opc1, 10, crm, opc2⟩ s

/-- Register 10, TLB lockdown, write (R249). -/
def execMcrC10 (cond : Cond) (opc1 : BitVec 3) (rd : BitVec 4) (opc2 : BitVec 3) (crm : BitVec 4) (s : State) :
    Host.Outcome State Fault Refusal :=
  mcrOp cond rd ⟨opc1, 10, crm, opc2⟩ s

/-- Register 11, DMA Control, read (R250). -/
def execMrcC11 (cond : Cond) (opc1 : BitVec 3) (rd : BitVec 4) (opc2 : BitVec 3) (crm : BitVec 4) (s : State) :
    Host.Outcome State Fault Refusal :=
  mrcOp cond rd ⟨opc1, 11, crm, opc2⟩ s

/-- Register 11, DMA Control, write (R250). -/
def execMcrC11 (cond : Cond) (opc1 : BitVec 3) (rd : BitVec 4) (opc2 : BitVec 3) (crm : BitVec 4) (s : State) :
    Host.Outcome State Fault Refusal :=
  mcrOp cond rd ⟨opc1, 11, crm, opc2⟩ s

/-- Register 12, reserved, read (R251). -/
def execMrcC12 (cond : Cond) (opc1 : BitVec 3) (rd : BitVec 4) (opc2 : BitVec 3) (crm : BitVec 4) (s : State) :
    Host.Outcome State Fault Refusal :=
  mrcOp cond rd ⟨opc1, 12, crm, opc2⟩ s

/-- Register 12, reserved, write (R251). -/
def execMcrC12 (cond : Cond) (opc1 : BitVec 3) (rd : BitVec 4) (opc2 : BitVec 3) (crm : BitVec 4) (s : State) :
    Host.Outcome State Fault Refusal :=
  mcrOp cond rd ⟨opc1, 12, crm, opc2⟩ s

/-- Register 13, Process ID, read (R252). -/
def execMrcC13 (cond : Cond) (opc1 : BitVec 3) (rd : BitVec 4) (opc2 : BitVec 3) (crm : BitVec 4) (s : State) :
    Host.Outcome State Fault Refusal :=
  mrcOp cond rd ⟨opc1, 13, crm, opc2⟩ s

/-- Register 13, Process ID, write (R252). -/
def execMcrC13 (cond : Cond) (opc1 : BitVec 3) (rd : BitVec 4) (opc2 : BitVec 3) (crm : BitVec 4) (s : State) :
    Host.Outcome State Fault Refusal :=
  mcrOp cond rd ⟨opc1, 13, crm, opc2⟩ s

/-- Register 14, reserved, read (R253). -/
def execMrcC14 (cond : Cond) (opc1 : BitVec 3) (rd : BitVec 4) (opc2 : BitVec 3) (crm : BitVec 4) (s : State) :
    Host.Outcome State Fault Refusal :=
  mrcOp cond rd ⟨opc1, 14, crm, opc2⟩ s

/-- Register 14, reserved, write (R253). -/
def execMcrC14 (cond : Cond) (opc1 : BitVec 3) (rd : BitVec 4) (opc2 : BitVec 3) (crm : BitVec 4) (s : State) :
    Host.Outcome State Fault Refusal :=
  mcrOp cond rd ⟨opc1, 14, crm, opc2⟩ s

/-- Register 15, IMPLEMENTATION DEFINED, read (R254). -/
def execMrcC15 (cond : Cond) (opc1 : BitVec 3) (rd : BitVec 4) (opc2 : BitVec 3) (crm : BitVec 4) (s : State) :
    Host.Outcome State Fault Refusal :=
  mrcOp cond rd ⟨opc1, 15, crm, opc2⟩ s

/-- Register 15, IMPLEMENTATION DEFINED, write (R254). -/
def execMcrC15 (cond : Cond) (opc1 : BitVec 3) (rd : BitVec 4) (opc2 : BitVec 3) (crm : BitVec 4) (s : State) :
    Host.Outcome State Fault Refusal :=
  mcrOp cond rd ⟨opc1, 15, crm, opc2⟩ s

end Sys2Proof.Machine
end

