-- ==== Sys2Proof/Machine/Undefined.lean ====
section
/-! DEFINITION. The forms every CP15 leaves UNDEFINED (40_register_access.md section 2, R125 to R136): operands are not
evaluated, nothing is read or written but by the exception, in every mode and whatever the CP15 state. -/

namespace Sys2Proof.Machine

open Sys2Proof

/-- The body every UNDEFINED form has; `none` is an unconditional form (40_register_access.md section 2). -/
def undefinedForm (cond : Option Cond) (s : State) : Host.Outcome State Fault Refusal :=
  if condFieldPassed cond s then undefinedInstruction s else .next s.advance

/-- R126. -/
def execCdp2 (s : State) : Host.Outcome State Fault Refusal := undefinedForm none s

/-- R125. -/
def execCdp (cond : Cond) (s : State) : Host.Outcome State Fault Refusal := undefinedForm (some cond) s

/-- R128. -/
def execMrc2 (s : State) : Host.Outcome State Fault Refusal := undefinedForm none s

/-- R127. -/
def execMcr2 (s : State) : Host.Outcome State Fault Refusal := undefinedForm none s

/-- R134. -/
def execMrrc2 (s : State) : Host.Outcome State Fault Refusal := undefinedForm none s

/-- R133. -/
def execMcrr2 (s : State) : Host.Outcome State Fault Refusal := undefinedForm none s

/-- R135. -/
def execLdcStcCorner (cond : Option Cond) (s : State) : Host.Outcome State Fault Refusal := undefinedForm cond s

/-- R130. -/
def execLdc2 (s : State) : Host.Outcome State Fault Refusal := undefinedForm none s

/-- R129. -/
def execLdc (cond : Cond) (s : State) : Host.Outcome State Fault Refusal := undefinedForm (some cond) s

/-- R132. -/
def execStc2 (s : State) : Host.Outcome State Fault Refusal := undefinedForm none s

/-- R131. -/
def execStc (cond : Cond) (s : State) : Host.Outcome State Fault Refusal := undefinedForm (some cond) s

end Sys2Proof.Machine
end

