-- ==== Sys2Proof/Machine/Dispatch.lean ====
section
/-! DEFINITION. One arm per instruction. -/

namespace Sys2Proof.Machine

open Sys2Proof

def exec (i : Instr) (s : State) : Host.Outcome State Fault Refusal :=
  match i with
  | .cdp2 _ _ _ _ _ => Sys2Proof.Machine.execCdp2 s
  | .cdp cond _ _ _ _ _ => Sys2Proof.Machine.execCdp cond s
  | .mrc2 _ _ _ _ _ => Sys2Proof.Machine.execMrc2 s
  | .mcr2 _ _ _ _ _ => Sys2Proof.Machine.execMcr2 s
  | .mrc cond opc1 crn rd opc2 crm => Sys2Proof.Machine.execMrc cond opc1 crn rd opc2 crm s
  | .mcr cond opc1 crn rd opc2 crm => Sys2Proof.Machine.execMcr cond opc1 crn rd opc2 crm s
  | .mrrc2 _ _ _ _ => Sys2Proof.Machine.execMrrc2 s
  | .mcrr2 _ _ _ _ => Sys2Proof.Machine.execMcrr2 s
  | .mrrc cond rn rd opcode crm => Sys2Proof.Machine.execMrrc cond rn rd opcode crm s
  | .mcrr cond rn rd opcode crm => Sys2Proof.Machine.execMcrr cond rn rd opcode crm s
  | .ldcStcCorner cond _ _ _ _ => Sys2Proof.Machine.execLdcStcCorner cond s
  | .ldc2 _ _ _ _ _ _ _ => Sys2Proof.Machine.execLdc2 s
  | .ldc cond _ _ _ _ _ _ _ => Sys2Proof.Machine.execLdc cond s
  | .stc2 _ _ _ _ _ _ _ => Sys2Proof.Machine.execStc2 s
  | .stc cond _ _ _ _ _ _ _ => Sys2Proof.Machine.execStc cond s
  | .mrcMidr cond rd => Sys2Proof.Machine.execMrcMidr cond rd s
  | .mrcCtr cond rd => Sys2Proof.Machine.execMrcCtr cond rd s
  | .mrcTcmtr cond rd => Sys2Proof.Machine.execMrcTcmtr cond rd s
  | .mrcTlbtr cond rd => Sys2Proof.Machine.execMrcTlbtr cond rd s
  | .mrcMpuir cond rd => Sys2Proof.Machine.execMrcMpuir cond rd s
  | .mrcId5 cond rd => Sys2Proof.Machine.execMrcId5 cond rd s
  | .mrcId6 cond rd => Sys2Proof.Machine.execMrcId6 cond rd s
  | .mrcId7 cond rd => Sys2Proof.Machine.execMrcId7 cond rd s
  | .mrcCr cond rd => Sys2Proof.Machine.execMrcCr cond rd s
  | .mcrCr cond rd => Sys2Proof.Machine.execMcrCr cond rd s
  | .mrcAcr cond rd => Sys2Proof.Machine.execMrcAcr cond rd s
  | .mcrAcr cond rd => Sys2Proof.Machine.execMcrAcr cond rd s
  | .mrcCpacr cond rd => Sys2Proof.Machine.execMrcCpacr cond rd s
  | .mcrCpacr cond rd => Sys2Proof.Machine.execMcrCpacr cond rd s
  | .mrcC2 cond opc1 rd opc2 crm => Sys2Proof.Machine.execMrcC2 cond opc1 rd opc2 crm s
  | .mcrC2 cond opc1 rd opc2 crm => Sys2Proof.Machine.execMcrC2 cond opc1 rd opc2 crm s
  | .mrcC3 cond opc1 rd opc2 crm => Sys2Proof.Machine.execMrcC3 cond opc1 rd opc2 crm s
  | .mcrC3 cond opc1 rd opc2 crm => Sys2Proof.Machine.execMcrC3 cond opc1 rd opc2 crm s
  | .mrcC4 cond opc1 rd opc2 crm => Sys2Proof.Machine.execMrcC4 cond opc1 rd opc2 crm s
  | .mcrC4 cond opc1 rd opc2 crm => Sys2Proof.Machine.execMcrC4 cond opc1 rd opc2 crm s
  | .mrcC5 cond opc1 rd opc2 crm => Sys2Proof.Machine.execMrcC5 cond opc1 rd opc2 crm s
  | .mcrC5 cond opc1 rd opc2 crm => Sys2Proof.Machine.execMcrC5 cond opc1 rd opc2 crm s
  | .mrcC6 cond opc1 rd opc2 crm => Sys2Proof.Machine.execMrcC6 cond opc1 rd opc2 crm s
  | .mcrC6 cond opc1 rd opc2 crm => Sys2Proof.Machine.execMcrC6 cond opc1 rd opc2 crm s
  | .mrcC7 cond opc1 rd opc2 crm => Sys2Proof.Machine.execMrcC7 cond opc1 rd opc2 crm s
  | .mcrC7 cond opc1 rd opc2 crm => Sys2Proof.Machine.execMcrC7 cond opc1 rd opc2 crm s
  | .mrcC8 cond opc1 rd opc2 crm => Sys2Proof.Machine.execMrcC8 cond opc1 rd opc2 crm s
  | .mcrC8 cond opc1 rd opc2 crm => Sys2Proof.Machine.execMcrC8 cond opc1 rd opc2 crm s
  | .mrcC9 cond opc1 rd opc2 crm => Sys2Proof.Machine.execMrcC9 cond opc1 rd opc2 crm s
  | .mcrC9 cond opc1 rd opc2 crm => Sys2Proof.Machine.execMcrC9 cond opc1 rd opc2 crm s
  | .mrcC10 cond opc1 rd opc2 crm => Sys2Proof.Machine.execMrcC10 cond opc1 rd opc2 crm s
  | .mcrC10 cond opc1 rd opc2 crm => Sys2Proof.Machine.execMcrC10 cond opc1 rd opc2 crm s
  | .mrcC11 cond opc1 rd opc2 crm => Sys2Proof.Machine.execMrcC11 cond opc1 rd opc2 crm s
  | .mcrC11 cond opc1 rd opc2 crm => Sys2Proof.Machine.execMcrC11 cond opc1 rd opc2 crm s
  | .mrcC12 cond opc1 rd opc2 crm => Sys2Proof.Machine.execMrcC12 cond opc1 rd opc2 crm s
  | .mcrC12 cond opc1 rd opc2 crm => Sys2Proof.Machine.execMcrC12 cond opc1 rd opc2 crm s
  | .mrcC13 cond opc1 rd opc2 crm => Sys2Proof.Machine.execMrcC13 cond opc1 rd opc2 crm s
  | .mcrC13 cond opc1 rd opc2 crm => Sys2Proof.Machine.execMcrC13 cond opc1 rd opc2 crm s
  | .mrcC14 cond opc1 rd opc2 crm => Sys2Proof.Machine.execMrcC14 cond opc1 rd opc2 crm s
  | .mcrC14 cond opc1 rd opc2 crm => Sys2Proof.Machine.execMcrC14 cond opc1 rd opc2 crm s
  | .mrcC15 cond opc1 rd opc2 crm => Sys2Proof.Machine.execMrcC15 cond opc1 rd opc2 crm s
  | .mcrC15 cond opc1 rd opc2 crm => Sys2Proof.Machine.execMcrC15 cond opc1 rd opc2 crm s
  | .prefetchFlush cond rd => Sys2Proof.Machine.execPrefetchFlush cond rd s
  | .dataSyncBarrier cond rd => Sys2Proof.Machine.execDataSyncBarrier cond rd s
  | .dataMemBarrier cond rd => Sys2Proof.Machine.execDataMemBarrier cond rd s

end Sys2Proof.Machine
end

