-- ==== Sys2Proof/Machine/Step.lean ====
section
/-! DEFINITION. One step: the word at the pc is fetched, decoded and run. -/

namespace Sys2Proof.Machine

open Sys2Proof

/-- What a decoded word does. -/
def runDecoded (d : Decoded) (s : State) : Host.Outcome State Fault Refusal :=
  match d with
  | .instr i => exec i s
  | .coprocessor n cond => execCoprocessor n cond s
  | .coprocessorCorner cond => execCoprocessorCorner cond s
  | .rejected .notACoprocessorInstruction => .refused .coreInstructionOutsideSpec

/-- One step of the machine (R41, R67, R90, R304; D17). The word is fetched from main memory at the pc itself, translated by
nothing, whatever M is: what a disabled MMU does to an address is general knowledge (R69), and what an enabled MMU or
Protection Unit does is in no source (DESIGN CHOICE, log 35). -/
def step (s : State) : Host.Outcome State Fault Refusal :=
  if s.thumb then .refused .notArmState
  else if s.pc.toNat % 4 ≠ 0 then .fault .fetchUnaligned
  else
    match s.mem.readWord s.pc.toNat with
    | none => .fault .fetchUnlisted
    | some w => runDecoded (decode w) s

/-- The instruction whose bits are `w` placed at the pc (log 22). -/
def State.withFetchWord (s : State) (nbits w : Nat) : State :=
  { s with mem := s.mem.writeWord s.pc.toNat (tableWord nbits w) }

end Sys2Proof.Machine
end

