-- ==== Sys2Proof/Machine/Environment.lean ====
section
/-! DEFINITION. What reaches the machine beside `step`: the environment's three moves (R303), and what the Control register
makes the parts of the processor do whose instructions are outside the spec (42_reg1_control.md, "Exports"). -/

namespace Sys2Proof.Machine

open Sys2Proof

/-! ### The environment (R303) -/

/-- Assert reset (R290, R291): memory and the count of free values go on, all else is as after reset (log 28). -/
def State.assertReset (s : State) : State :=
  { State.resetWith s.cfg with
    mem := s.mem
    draws := s.draws }

/-- Raise IRQ between two instructions: taken when CPSR.I is clear (R265, R269; the mask is the family's, log 18). -/
def State.raiseIrq (s : State) : State :=
  if s.irqMasked then s else s.takeException .irq

/-- Raise FIQ between two instructions: taken when CPSR.F is clear (R265, R269; log 18). -/
def State.raiseFiq (s : State) : State :=
  if s.fiqMasked then s else s.takeException .fiq

/-! ### Data accesses and loads to the PC (R66, R187, R199, R204) -/

/-- A data access is a load or a store. -/
inductive Access where
  | load
  | store
  deriving DecidableEq, Repr

/-- What the chapter fixes of a data access (R66). -/
inductive AccessVerdict where
  /-- Aligned: nothing in the chapter bears on it. -/
  | aligned
  /-- The Data Abort exception, with the state at its handler, and no access. -/
  | dataAbort (after : State)
  /-- A rotated aligned access (legacy behaviour). -/
  | rotatedLoad
  /-- Permitted unaligned. -/
  | unalignedPermitted
  /-- An unaligned store with U = 0, of which nothing is said. -/
  | notStated
  deriving DecidableEq, Repr

/-- A data access of `n` bytes at `addr` (R66, R187, R204): with A = 1 the Data Abort whatever U is, else what U says; a bit
that the access consults and that is not in effect refuses it (R184; log 23). Before v6 an enabled check raises the same
exception (R261). -/
def State.dataAccess (s : State) (k : Access) (addr : Word) (n : Nat) : Except Refusal AccessVerdict :=
  if addr.toNat % n = 0 then .ok .aligned
  else if s.unsynchronised .a then .error .controlBitUnsynchronised
  else if s.exported .a then .ok (.dataAbort (s.takeException (.dataAbort addr)))
  else if s.unsynchronised .u then .error .controlBitUnsynchronised
  else if s.exported .u then .ok .unalignedPermitted
  else
    match k with
    | .load => .ok .rotatedLoad
    | .store => .ok .notStated

/-- The CPSR T-bit after LDM (1), LDR or POP loads `v` into the PC (R199). -/
def State.thumbAfterPcLoad (s : State) (v : Word) : Except Refusal Bool :=
  if s.unsynchronised .l4 then .error .controlBitUnsynchronised
  else .ok (if s.exported .l4 then s.thumb else v.getLsbD 0)

end Sys2Proof.Machine
end

