-- ==== Sys2Proof/Safety.lean ====
section
/-! DEFINITION. The terms the statements use: what an instruction leaves unchanged, what entering the Undefined Instruction
handler leaves, and the invariant every step keeps. -/

namespace Sys2Proof.Machine

open Sys2Proof

/-! ### Frames -/

/-- The parts of the state beside the general registers, the pc and the model's counter. -/
inductive Part where
  | cfg
  | spsr
  | cpsr
  | cr
  | crEff
  | acr
  | cpacr
  | cpacrEff
  | ext
  | mem
  deriving DecidableEq, Repr

/-- A part is the same in both states; memory is, when every byte reads the same. -/
def Part.Same (s t : State) : Part → Prop
  | .cfg => t.cfg = s.cfg
  | .spsr => ∀ k : Fin 5, t.spsr[k] = s.spsr[k]
  | .cpsr => t.cpsr = s.cpsr
  | .cr => t.cr = s.cr
  | .crEff => t.crEff = s.crEff
  | .acr => t.acr = s.acr
  | .cpacr => t.cpacr = s.cpacr
  | .cpacrEff => t.cpacrEff = s.cpacrEff
  | .ext => t.ext = s.ext
  | .mem => ∀ a, t.mem.readByte a = s.mem.readByte a

/-- Every part but those listed is the same. -/
def SameBut (changed : List Part) (s t : State) : Prop :=
  ∀ p : Part, p ∉ changed → p.Same s t

/-- Every general register, in every mode, is the same. -/
def SameRegs (s t : State) : Prop :=
  ∀ k : Fin 30, t.regs[k] = s.regs[k]

/-- Every general register, in every mode, but the listed ones of the current mode is the same. -/
def SameRegsBut (written : List (BitVec 4)) (s t : State) : Prop :=
  ∀ k : Fin 30, k ∉ written.map (regSlot s.modeBits) → t.regs[k] = s.regs[k]

/-- The pc has moved to the next word (R41), below the top of the address space, where the spec says what that is. -/
def Advanced (s t : State) : Prop :=
  s.pc.toNat + 4 < 2 ^ 32 → t.pc = s.pc + 4

/-! ### Entering a handler (R268, R269) -/

/-- `t` is `s` after the exception `e` of the instruction at `s`'s pc, entered as the core of the implementation enters it
(`CORE_EXC`, P22). The vector and what an abort records are left to the statements. -/
structure Enters (e : Exc) (s t : State) : Prop where
  /-- R14 of the mode entered gets the return address. -/
  link : s.pc.toNat + (s.entry e).linkOffset < 2 ^ 32 →
    t.regs[regSlot (s.entry e).mode.bits 14] = s.pc + BitVec.ofNat 32 (s.entry e).linkOffset
  /-- Its SPSR gets CPSR. -/
  saved : t.spsr[(s.entry e).mode.spsrIndex] = s.cpsr
  /-- CPSR[4:0] is the mode entered. -/
  mode : t.modeBits = (s.entry e).mode.bits
  /-- CPSR.T <- 0. -/
  arm : t.cpsr.getLsbD 5 = false
  /-- CPSR.F is set or kept. -/
  fiqMask : t.cpsr.getLsbD 6 = ((s.entry e).masksFiq || s.cpsr.getLsbD 6)
  /-- CPSR.I is set or kept. -/
  irqMask : t.cpsr.getLsbD 7 = ((s.entry e).masksIrq || s.cpsr.getLsbD 7)
  /-- CPSR.A is set or kept. -/
  abortMask : t.cpsr.getLsbD 8 = ((s.entry e).masksAborts || s.cpsr.getLsbD 8)
  /-- CPSR.E <- CR_EFF[25]. -/
  endian : t.cpsr.getLsbD 9 = s.crEff.getLsbD 25
  /-- The flags and every other bit of CPSR are not written. -/
  rest : t.cpsr.extractLsb' 10 22 = s.cpsr.extractLsb' 10 22
  /-- CR_EFF <- CR. -/
  crEff : t.crEff = s.cr
  /-- CPACR_EFF <- CPACR. -/
  cpacrEff : t.cpacrEff = s.cpacr
  /-- No other general register is written. -/
  regs : ∀ k : Fin 30, k ≠ regSlot (s.entry e).mode.bits 14 → t.regs[k] = s.regs[k]
  /-- No other saved status is written. -/
  spsr : ∀ k : Fin 5, k ≠ (s.entry e).mode.spsrIndex → t.spsr[k] = s.spsr[k]
  /-- Nothing else is written, but for the state the handler owns. -/
  others : SameBut [.spsr, .cpsr, .crEff, .cpacrEff, .ext] s t

/-- `t` is `s` after the Undefined Instruction exception of the instruction at `s`'s pc, which records nothing. -/
structure EntersUndefined (s t : State) : Prop extends Enters .undefinedInstruction s t where
  /-- pc <- Vector(UndefinedInstruction), in the range the V in effect at entry selects. -/
  vector : t.pc = (if s.crEff.getLsbD 13 then 0xFFFF0000 else 0x00000000) +
    vectorOffset s.cfg.coreExc.undefinedInstructionVector
  /-- The state the handler owns is not written. -/
  ext : t.ext = s.ext

/-- The values of an entry, written out: R14 and SPSR are the places `link` and `k`, the return address is the pc plus `offset`,
the mode is `mode`, and CPSR.A and CPSR.F are set when `a` and `f` say so. CPSR.I is set. -/
structure EntersWith (s t : State) (link : Fin 30) (k : Fin 5) (offset : Nat) (mode : BitVec 5) (a f : Bool) : Prop where
  link : s.pc.toNat + offset < 2 ^ 32 → t.regs[link] = s.pc + BitVec.ofNat 32 offset
  saved : t.spsr[k] = s.cpsr
  mode : t.cpsr.extractLsb' 0 5 = mode
  arm : t.cpsr.getLsbD 5 = false
  fiqMask : t.cpsr.getLsbD 6 = (f || s.cpsr.getLsbD 6)
  irqMask : t.cpsr.getLsbD 7 = true
  abortMask : t.cpsr.getLsbD 8 = (a || s.cpsr.getLsbD 8)

/-! ### The invariant -/

/-- What every step keeps, of every state. -/
structure State.Inv (s : State) : Prop where
  /-- Memory is in canonical form. -/
  memory : s.mem.wf = true
  /-- `CP15.CR & ~RWMASK = 0` (R28). -/
  cr : s.cr &&& ~~~s.cfg.rwMask = 0
  /-- The same of CR_EFF, which is a former value of CR (R36). -/
  crEff : s.crEff &&& ~~~s.cfg.rwMask = 0
  /-- Only ACR_WMASK bits are stored (R29). -/
  acr : s.acr &&& ~~~s.cfg.acrWmask = 0
  /-- `CP15.CPACR & ~IMPLMASK = 0` (R31). -/
  cpacr : s.cpacr &&& ~~~s.cfg.implMask = 0
  /-- The same of CPACR_EFF. -/
  cpacrEff : s.cpacrEff &&& ~~~s.cfg.implMask = 0
  /-- No field of CPACR is 0b10 (R225). -/
  rights : hasReservedRights s.cpacr = false
  /-- No field of CPACR_EFF is 0b10 (R229). -/
  rightsEff : hasReservedRights s.cpacrEff = false
  /-- With immediate visibility CR_EFF is CR (R36). -/
  immediate : s.cfg.crVisibility = .immediate → s.crEff = s.cr
  /-- The pc is word-aligned (R41). -/
  aligned : s.pc.toNat % 4 = 0
  /-- The mode is one of the seven. -/
  mode : legalMode s.modeBits = true
  /-- The core is in ARM state (D17). -/
  arm : s.thumb = false

/-! ### Families of instructions -/

/-- The register addresses R143 and R144 give to the handler: an assigned opcode1, or primary registers 2, 3, 5 to 11, 13
and 15 with opcode1 0. -/
def ToHandler (c : Cfg) (a : RegAddr) : Prop :=
  (a.opc1 ≠ 0 ∧ a.opc1 ∈ c.ext.opc1Assigned) ∨
  (a.opc1 = 0 ∧ a.crn ∈ [2, 3, 5, 6, 7, 8, 9, 10, 11, 13, 15])

/-- Every MRC of CP15 with its condition, Rd and register address. -/
def mrcForm : Instr → Option (Cond × BitVec 4 × RegAddr)
  | .mrc c opc1 crn rd opc2 crm => some (c, rd, ⟨opc1, crn, crm, opc2⟩)
  | .mrcMidr c rd => some (c, rd, ⟨0, 0, 0, 0⟩)
  | .mrcCtr c rd => some (c, rd, ⟨0, 0, 0, 1⟩)
  | .mrcTcmtr c rd => some (c, rd, ⟨0, 0, 0, 2⟩)
  | .mrcTlbtr c rd => some (c, rd, ⟨0, 0, 0, 3⟩)
  | .mrcMpuir c rd => some (c, rd, ⟨0, 0, 0, 4⟩)
  | .mrcId5 c rd => some (c, rd, ⟨0, 0, 0, 5⟩)
  | .mrcId6 c rd => some (c, rd, ⟨0, 0, 0, 6⟩)
  | .mrcId7 c rd => some (c, rd, ⟨0, 0, 0, 7⟩)
  | .mrcCr c rd => some (c, rd, ⟨0, 1, 0, 0⟩)
  | .mrcAcr c rd => some (c, rd, ⟨0, 1, 0, 1⟩)
  | .mrcCpacr c rd => some (c, rd, ⟨0, 1, 0, 2⟩)
  | .mrcC2 c opc1 rd opc2 crm => some (c, rd, ⟨opc1, 2, crm, opc2⟩)
  | .mrcC3 c opc1 rd opc2 crm => some (c, rd, ⟨opc1, 3, crm, opc2⟩)
  | .mrcC4 c opc1 rd opc2 crm => some (c, rd, ⟨opc1, 4, crm, opc2⟩)
  | .mrcC5 c opc1 rd opc2 crm => some (c, rd, ⟨opc1, 5, crm, opc2⟩)
  | .mrcC6 c opc1 rd opc2 crm => some (c, rd, ⟨opc1, 6, crm, opc2⟩)
  | .mrcC7 c opc1 rd opc2 crm => some (c, rd, ⟨opc1, 7, crm, opc2⟩)
  | .mrcC8 c opc1 rd opc2 crm => some (c, rd, ⟨opc1, 8, crm, opc2⟩)
  | .mrcC9 c opc1 rd opc2 crm => some (c, rd, ⟨opc1, 9, crm, opc2⟩)
  | .mrcC10 c opc1 rd opc2 crm => some (c, rd, ⟨opc1, 10, crm, opc2⟩)
  | .mrcC11 c opc1 rd opc2 crm => some (c, rd, ⟨opc1, 11, crm, opc2⟩)
  | .mrcC12 c opc1 rd opc2 crm => some (c, rd, ⟨opc1, 12, crm, opc2⟩)
  | .mrcC13 c opc1 rd opc2 crm => some (c, rd, ⟨opc1, 13, crm, opc2⟩)
  | .mrcC14 c opc1 rd opc2 crm => some (c, rd, ⟨opc1, 14, crm, opc2⟩)
  | .mrcC15 c opc1 rd opc2 crm => some (c, rd, ⟨opc1, 15, crm, opc2⟩)
  | _ => none

/-- Every MCR of CP15 with its condition, Rd and register address. -/
def mcrForm : Instr → Option (Cond × BitVec 4 × RegAddr)
  | .mcr c opc1 crn rd opc2 crm => some (c, rd, ⟨opc1, crn, crm, opc2⟩)
  | .mcrCr c rd => some (c, rd, ⟨0, 1, 0, 0⟩)
  | .mcrAcr c rd => some (c, rd, ⟨0, 1, 0, 1⟩)
  | .mcrCpacr c rd => some (c, rd, ⟨0, 1, 0, 2⟩)
  | .mcrC2 c opc1 rd opc2 crm => some (c, rd, ⟨opc1, 2, crm, opc2⟩)
  | .mcrC3 c opc1 rd opc2 crm => some (c, rd, ⟨opc1, 3, crm, opc2⟩)
  | .mcrC4 c opc1 rd opc2 crm => some (c, rd, ⟨opc1, 4, crm, opc2⟩)
  | .mcrC5 c opc1 rd opc2 crm => some (c, rd, ⟨opc1, 5, crm, opc2⟩)
  | .mcrC6 c opc1 rd opc2 crm => some (c, rd, ⟨opc1, 6, crm, opc2⟩)
  | .mcrC7 c opc1 rd opc2 crm => some (c, rd, ⟨opc1, 7, crm, opc2⟩)
  | .mcrC8 c opc1 rd opc2 crm => some (c, rd, ⟨opc1, 8, crm, opc2⟩)
  | .mcrC9 c opc1 rd opc2 crm => some (c, rd, ⟨opc1, 9, crm, opc2⟩)
  | .mcrC10 c opc1 rd opc2 crm => some (c, rd, ⟨opc1, 10, crm, opc2⟩)
  | .mcrC11 c opc1 rd opc2 crm => some (c, rd, ⟨opc1, 11, crm, opc2⟩)
  | .mcrC12 c opc1 rd opc2 crm => some (c, rd, ⟨opc1, 12, crm, opc2⟩)
  | .mcrC13 c opc1 rd opc2 crm => some (c, rd, ⟨opc1, 13, crm, opc2⟩)
  | .mcrC14 c opc1 rd opc2 crm => some (c, rd, ⟨opc1, 14, crm, opc2⟩)
  | .mcrC15 c opc1 rd opc2 crm => some (c, rd, ⟨opc1, 15, crm, opc2⟩)
  | .prefetchFlush c rd => some (c, rd, ⟨0, 7, 5, 4⟩)
  | .dataSyncBarrier c rd => some (c, rd, ⟨0, 7, 10, 4⟩)
  | .dataMemBarrier c rd => some (c, rd, ⟨0, 7, 10, 5⟩)
  | _ => none

/-- The classes of R103 and the corner of R135. -/
inductive InstrClass where
  | cdp2
  | cdp
  | mrc2
  | mcr2
  | mrc
  | mcr
  | mrrc2
  | mcrr2
  | mrrc
  | mcrr
  | corner
  | ldc2
  | ldc
  | stc2
  | stc
  deriving DecidableEq, Repr

/-- The class of an instruction; the register-level rows are MRC and MCR instructions (R111). -/
def instrClass : Instr → InstrClass
  | .cdp2 .. => .cdp2
  | .cdp .. => .cdp
  | .mrc2 .. => .mrc2
  | .mcr2 .. => .mcr2
  | .mrc .. => .mrc
  | .mcr .. => .mcr
  | .mrrc2 .. => .mrrc2
  | .mcrr2 .. => .mcrr2
  | .mrrc .. => .mrrc
  | .mcrr .. => .mcrr
  | .ldcStcCorner .. => .corner
  | .ldc2 .. => .ldc2
  | .ldc .. => .ldc
  | .stc2 .. => .stc2
  | .stc .. => .stc
  | .mrcMidr .. => .mrc
  | .mrcCtr .. => .mrc
  | .mrcTcmtr .. => .mrc
  | .mrcTlbtr .. => .mrc
  | .mrcMpuir .. => .mrc
  | .mrcId5 .. => .mrc
  | .mrcId6 .. => .mrc
  | .mrcId7 .. => .mrc
  | .mrcCr .. => .mrc
  | .mcrCr .. => .mcr
  | .mrcAcr .. => .mrc
  | .mcrAcr .. => .mcr
  | .mrcCpacr .. => .mrc
  | .mcrCpacr .. => .mcr
  | .mrcC2 .. => .mrc
  | .mcrC2 .. => .mcr
  | .mrcC3 .. => .mrc
  | .mcrC3 .. => .mcr
  | .mrcC4 .. => .mrc
  | .mcrC4 .. => .mcr
  | .mrcC5 .. => .mrc
  | .mcrC5 .. => .mcr
  | .mrcC6 .. => .mrc
  | .mcrC6 .. => .mcr
  | .mrcC7 .. => .mrc
  | .mcrC7 .. => .mcr
  | .mrcC8 .. => .mrc
  | .mcrC8 .. => .mcr
  | .mrcC9 .. => .mrc
  | .mcrC9 .. => .mcr
  | .mrcC10 .. => .mrc
  | .mcrC10 .. => .mcr
  | .mrcC11 .. => .mrc
  | .mcrC11 .. => .mcr
  | .mrcC12 .. => .mrc
  | .mcrC12 .. => .mcr
  | .mrcC13 .. => .mrc
  | .mcrC13 .. => .mcr
  | .mrcC14 .. => .mrc
  | .mcrC14 .. => .mcr
  | .mrcC15 .. => .mrc
  | .mcrC15 .. => .mcr
  | .prefetchFlush .. => .mcr
  | .dataSyncBarrier .. => .mcr
  | .dataMemBarrier .. => .mcr

/-- The classes that are UNDEFINED for CP15 (R105 condition 1, R135). -/
def InstrClass.isUndefined (k : InstrClass) : Bool :=
  [.cdp2, .cdp, .mrc2, .mcr2, .mrrc2, .mcrr2, .corner, .ldc2, .ldc, .stc2, .stc].contains k

/-- The condition an instruction carries; `none` is an unconditional form (R92, R102). -/
def instrCond : Instr → Option Cond
  | .cdp2 .. => none
  | .cdp cond .. => some cond
  | .mrc2 .. => none
  | .mcr2 .. => none
  | .mrc cond .. => some cond
  | .mcr cond .. => some cond
  | .mrrc2 .. => none
  | .mcrr2 .. => none
  | .mrrc cond .. => some cond
  | .mcrr cond .. => some cond
  | .ldcStcCorner cond .. => cond
  | .ldc2 .. => none
  | .ldc cond .. => some cond
  | .stc2 .. => none
  | .stc cond .. => some cond
  | .mrcMidr cond .. => some cond
  | .mrcCtr cond .. => some cond
  | .mrcTcmtr cond .. => some cond
  | .mrcTlbtr cond .. => some cond
  | .mrcMpuir cond .. => some cond
  | .mrcId5 cond .. => some cond
  | .mrcId6 cond .. => some cond
  | .mrcId7 cond .. => some cond
  | .mrcCr cond .. => some cond
  | .mcrCr cond .. => some cond
  | .mrcAcr cond .. => some cond
  | .mcrAcr cond .. => some cond
  | .mrcCpacr cond .. => some cond
  | .mcrCpacr cond .. => some cond
  | .mrcC2 cond .. => some cond
  | .mcrC2 cond .. => some cond
  | .mrcC3 cond .. => some cond
  | .mcrC3 cond .. => some cond
  | .mrcC4 cond .. => some cond
  | .mcrC4 cond .. => some cond
  | .mrcC5 cond .. => some cond
  | .mcrC5 cond .. => some cond
  | .mrcC6 cond .. => some cond
  | .mcrC6 cond .. => some cond
  | .mrcC7 cond .. => some cond
  | .mcrC7 cond .. => some cond
  | .mrcC8 cond .. => some cond
  | .mcrC8 cond .. => some cond
  | .mrcC9 cond .. => some cond
  | .mcrC9 cond .. => some cond
  | .mrcC10 cond .. => some cond
  | .mcrC10 cond .. => some cond
  | .mrcC11 cond .. => some cond
  | .mcrC11 cond .. => some cond
  | .mrcC12 cond .. => some cond
  | .mcrC12 cond .. => some cond
  | .mrcC13 cond .. => some cond
  | .mcrC13 cond .. => some cond
  | .mrcC14 cond .. => some cond
  | .mcrC14 cond .. => some cond
  | .mrcC15 cond .. => some cond
  | .mcrC15 cond .. => some cond
  | .prefetchFlush cond .. => some cond
  | .dataSyncBarrier cond .. => some cond
  | .dataMemBarrier cond .. => some cond

/-! ### The conditions an access meets (R142) -/

/-- CP15 is there, the condition passes, and the mode is privileged: what an access needs beside a legal encoding. -/
def Reaches (c : Cond) (s : State) : Prop :=
  s.cfg.cp15Absent = false ∧ condPassed c s = true ∧ s.inUserMode = false

/-- The same for an access that User mode may make when the user-access list has it (R138). -/
def ReachesAs (target : ExtTarget) (c : Cond) (s : State) : Prop :=
  s.cfg.cp15Absent = false ∧ condPassed c s = true ∧ (s.inUserMode = true → s.cfg.arch = .v6 ∧ target ∈ s.cfg.userOps)

/-- None of the encoding-level UNPREDICTABLE conditions 1 to 8 of R104 holds, in the words of R142. -/
structure EncodingLegal (cfg : Cfg) (d : Direction) (rd : BitVec 4) (a : RegAddr) : Prop where
  notPc : rd ≠ 15
  assigned : a.opc1 ≠ 0 → a.opc1 ∈ cfg.ext.opc1Assigned
  crm : a.opc1 = 0 → a.crn = 0 ∨ a.crn = 1 → a.crm = 0
  idWrite : a.opc1 = 0 → d = .write → a.crn ≠ 0
  selector : a.opc1 = 0 → a.crn = 1 → a.opc2.toNat ≤ 2
  register4 : a.opc1 = 0 → a.crn ≠ 4
  reserved : a.opc1 = 0 → a.crn = 12 ∨ a.crn = 14 → cfg.arch = .v6

/-- Nothing but the pc has moved. -/
def OnlyAdvances (s t : State) : Prop :=
  Advanced s t ∧ SameRegs s t ∧ SameBut [] s t

/-! ### The handler (R145; log 6, log 33) -/

/-- The handler's own rule or verdict for the call is `v`; `byHandler` asks the verdict of the owned state and the call. -/
def HandlerVerdict (s : State) (call : ExtCall) (v : ExtVerdict) : Prop :=
  s.cfg.extRule call.target = .byHandler ∧ s.fUnsettled = false ∧ Config.extVerdict s.ext s.implControls call = v

/-- The handler serves the call. -/
def HandlerDone (s : State) (call : ExtCall) : Prop :=
  s.cfg.extRule call.target ∈ [ExtRule.noEffect, .prefetchFlush] ∨
  (s.cfg.extRule call.target = .served ∧ s.fUnsettled = false) ∨ HandlerVerdict s call .done

/-- The handler's verdict on the call is Undefined. -/
def HandlerUndefined (s : State) (call : ExtCall) : Prop :=
  s.cfg.extRule call.target = .undefined ∨ HandlerVerdict s call .undefined

/-- The handler's verdict on the call is Unpredictable. -/
def HandlerUnpredictable (s : State) (call : ExtCall) : Prop :=
  s.cfg.extRule call.target = .unpredictable ∨ HandlerVerdict s call .unpredictable

/-- The call consults an F bit that is written and not in effect (R184). -/
def HandlerUnsettled (s : State) (call : ExtCall) : Prop :=
  s.cfg.extRule call.target ∈ [ExtRule.served, .byHandler] ∧ s.fUnsettled = true

/-- What a served call leaves of everything beside the general registers and the pc: the owned state moved, nothing, or the
effective copies brought up to date. -/
def HandlerDid (s t : State) (call : ExtCall) : Prop :=
  match s.cfg.extRule call.target with
  | .served | .byHandler => t.ext = Config.extNext s.ext s.implControls call ∧ SameBut [.ext] s t
  | .noEffect => SameBut [] s t
  | .prefetchFlush => t.crEff = s.cr ∧ t.cpacrEff = s.cpacr ∧ SameBut [.crEff, .cpacrEff] s t
  | .unpredictable | .undefined => False

end Sys2Proof.Machine
end

