-- ==== Sys2Proof/Certificates/Slice0/Obligations.lean ====
section
/-! DEFINITION. The statements for the provers, from the numbered rules of spec/. Every one is over all states, so over all
implementations: the constants are part of the state (log 4). -/

section

open Sys2Proof Sys2Proof.Machine

/-! ### Decoding (30_encoding.md) -/

/-- Decoding the word of a well-formed instruction gives the instruction back, every operand at every value. -/
def Obligations.DecodeOfEncode : Prop :=
  ∀ i : Instr, i.wellFormed = true → decode (encode i) = .instr i

/-- Every word that decodes to an instruction is the word of that instruction, which is well-formed: one meaning a word,
one word a meaning. -/
def Obligations.EncodeOfDecode : Prop :=
  ∀ (w : Word) (i : Instr), decode w = .instr i → i.wellFormed = true ∧ encode i = w

/-- R103: which words are CP15 instructions, and of which class. -/
def Obligations.Cp15WordsClassified : Prop :=
  ∀ w : Word,
    ((∃ i, decode w = .instr i) ↔
      w.extractLsb' 8 4 = 0b1111#4 ∧ (w.extractLsb' 24 4 = 0b1110#4 ∨ w.extractLsb' 25 3 = 0b110#3)) ∧
    ∀ i, decode w = .instr i →
      instrClass i =
        if w.extractLsb' 24 4 = 0b1110#4 then
          if w.getLsbD 4 = false then (if w.extractLsb' 28 4 = 0b1111#4 then .cdp2 else .cdp)
          else if w.extractLsb' 28 4 = 0b1111#4 then (if w.getLsbD 20 then .mrc2 else .mcr2)
          else if w.getLsbD 20 then .mrc
          else .mcr
        else if w.extractLsb' 21 7 = 0b1100010#7 then
          if w.extractLsb' 28 4 = 0b1111#4 then (if w.getLsbD 20 then .mrrc2 else .mcrr2)
          else if w.getLsbD 20 then .mrrc
          else .mcrr
        else if w.extractLsb' 21 7 = 0b1100000#7 then .corner
        else if w.extractLsb' 28 4 = 0b1111#4 then (if w.getLsbD 20 then .ldc2 else .stc2)
        else if w.getLsbD 20 then .ldc
        else .stc

/-- Words the spec prints in its examples are the instructions it says they are. -/
def Obligations.PrintedWordsDecode : Prop :=
  decode 0xEE100F10 = .instr (.mrcMidr .al 0) ∧
  decode 0xEE101F30 = .instr (.mrcCtr .al 1) ∧
  decode 0xEE102FF0 = .instr (.mrcId7 .al 2) ∧
  decode 0xEE010F10 = .instr (.mcrCr .al 0) ∧
  decode 0xEE110F50 = .instr (.mrcCpacr .al 0) ∧
  decode 0xEE1D0F10 = .instr (.mrcC13 .al 0 0 0 0) ∧
  decode 0xEE070F95 = .instr (.prefetchFlush .al 0) ∧
  decode 0xEC410F0C = .instr (.mcrr .al 1 0 0 12) ∧
  decode 0xEC510F00 = .instr (.mrrc .al 1 0 0 0) ∧
  decode 0xFE010F10 = .instr (.mcr2 0 1 0 0 0) ∧
  decode 0xED900F00 = .instr (.ldc .al 1 1 0 0 0 0 0) ∧
  decode 0xEC000F00 = .instr (.ldcStcCorner (some .al) 0 0 0 0)

/-- A step runs the word at the pc: the instruction it decodes to, and nothing around it. The word is made of its bytes
least significant first (log 11) and fetched from memory at the pc untranslated (R69; log 35); the pc is word-aligned and the
core in ARM state (D15, D17; log 24). That a word of another coprocessor goes to the access check of R229, the corner of LDC
and STC to R102, and any other word out of the spec (00_scope.md section 3) is the model's reading (log 19, DEDUCED). -/
def Obligations.StepRunsDecodedWord : Prop :=
  ∀ (s : State) (b0 b1 b2 b3 : Byte),
    s.thumb = false → s.pc.toNat % 4 = 0 →
    s.mem.readByte s.pc.toNat = some b0 → s.mem.readByte (s.pc.toNat + 1) = some b1 →
    s.mem.readByte (s.pc.toNat + 2) = some b2 → s.mem.readByte (s.pc.toNat + 3) = some b3 →
    (∀ i, decode (b3 ++ b2 ++ b1 ++ b0) = .instr i → step s = exec i s) ∧
    (∀ n c, decode (b3 ++ b2 ++ b1 ++ b0) = .coprocessor n c → step s = execCoprocessor n c s) ∧
    (∀ c, decode (b3 ++ b2 ++ b1 ++ b0) = .coprocessorCorner c → step s = execCoprocessorCorner c s) ∧
    (∀ e, decode (b3 ++ b2 ++ b1 ++ b0) = .rejected e → step s = .refused .coreInstructionOutsideSpec)

/-- A word placed for the next fetch is the one the next step runs (log 22). -/
def Obligations.PlacedWordRuns : Prop :=
  ∀ (s : State) (nbits w : Nat) (i : Instr),
    s.thumb = false → s.pc.toNat % 4 = 0 → decodeTableWord nbits w = some i →
    step (s.withFetchWord nbits w) = exec i (s.withFetchWord nbits w)

/-! ### Primary register 0 (41_reg0_id_codes.md) -/

/-- R151, R153: MRC of c0, c0 with any opcode2 (`mrcMidr`, `mrcCtr`, `mrcTcmtr`, `mrcTlbtr`, `mrcMpuir`, `mrcId5`, `mrcId6`,
`mrcId7`) reads the register opcode2 selects, or the Main ID register; with another CRm it is refused. -/
def Obligations.IdRegisterReads : Prop :=
  (∀ (i : Instr) (c : Cond) (rd : BitVec 4) (opc2 : BitVec 3) (s : State),
    mrcForm i = some (c, rd, ⟨0, 0, 0, opc2⟩) → rd ≠ 15 → Reaches c s →
    ∃ t, exec i s = .next t ∧
      t.readReg rd =
        (if opc2 = 1 then s.cfg.ctr.getD s.cfg.midr
         else if opc2 = 2 then s.cfg.tcmtr.getD s.cfg.midr
         else if opc2 = 3 then s.cfg.tlbtr.getD s.cfg.midr
         else if opc2 = 4 then s.cfg.mpuir.getD s.cfg.midr
         else s.cfg.midr) ∧
      Advanced s t ∧ SameRegsBut [rd] s t ∧ SameBut [] s t) ∧
  (∀ (i : Instr) (c : Cond) (rd crm : BitVec 4) (opc2 : BitVec 3) (s : State),
    mrcForm i = some (c, rd, ⟨0, 0, crm, opc2⟩) → crm ≠ 0 → rd ≠ 15 → s.cfg.cp15Absent = false →
    exec i s = .refused .crmNotC0)

/-- R154: an ID register is implemented exactly when it reads otherwise than the Main ID register. -/
def Obligations.IdPresenceDetectable : Prop :=
  ∀ (s : State) (c : Cond) (rd : BitVec 4), s.cfg.wf = true → rd ≠ 15 → Reaches c s →
    ∃ m t1 t2 t3 t4 : State,
      exec (.mrcMidr c rd) s = .next m ∧ exec (.mrcCtr c rd) s = .next t1 ∧ exec (.mrcTcmtr c rd) s = .next t2 ∧
      exec (.mrcTlbtr c rd) s = .next t3 ∧ exec (.mrcMpuir c rd) s = .next t4 ∧
      (t1.readReg rd ≠ m.readReg rd ↔ s.cfg.ctr.isSome = true) ∧
      (t2.readReg rd ≠ m.readReg rd ↔ s.cfg.tcmtr.isSome = true) ∧
      (t3.readReg rd ≠ m.readReg rd ↔ s.cfg.tlbtr.isSome = true) ∧
      (t4.readReg rd ≠ m.readReg rd ↔ s.cfg.mpuir.isSome = true)

/-! ### Primary register 1 (42_reg1_control.md) -/

/-- R28, R183: MRC of the Control register (`mrcCr`), bit by bit: the written value, not the effective one, in RW bits; the
fixed bits; a free value, a new one at each read, in UNP bits (log 8). -/
def Obligations.ControlRegisterRead : Prop :=
  ∀ (c : Cond) (rd : BitVec 4) (s : State), rd ≠ 15 → Reaches c s →
    ∃ t, exec (.mrcCr c rd) s = .next t ∧
      (∀ n < 32, (t.readReg rd).getLsbD n =
        match s.cfg.crKindAt n with
        | .rw => s.cr.getLsbD n
        | .fixed0 => false
        | .fixed1 => true
        | .unp => (Config.draw32 s.draws).getLsbD n) ∧
      t.draws ≠ s.draws ∧ Advanced s t ∧ SameRegsBut [rd] s t ∧ SameBut [] s t

/-- R28, R184: MCR to the Control register (`mcrCr`) stores the RW bits and no other; the effective copy follows at once or
keeps its value, as the implementation has it. -/
def Obligations.ControlRegisterWrite : Prop :=
  ∀ (c : Cond) (rd : BitVec 4) (s : State), rd ≠ 15 → Reaches c s →
    ∃ t, exec (.mcrCr c rd) s = .next t ∧
      (∀ n < 32, t.cr.getLsbD n = (decide (s.cfg.crKindAt n = .rw) && (s.readReg rd).getLsbD n)) ∧
      (s.cfg.crVisibility = .immediate → t.crEff = t.cr) ∧
      (s.cfg.crVisibility = .afterFlush → t.crEff = s.crEff) ∧
      Advanced s t ∧ SameRegs s t ∧ SameBut [.cr, .crEff] s t

/-- R146, R297: read, modify, write changes only the RW bits of the mask, whatever the UNP bits read as; with no
modification it changes nothing. -/
def Obligations.ControlReadModifyWrite : Prop :=
  ∀ (c : Cond) (rd : BitVec 4) (s : State) (m : Word), rd ≠ 15 → Reaches c s → s.Inv →
    ∃ t u v, exec (.mrcCr c rd) s = .next t ∧
      exec (.mcrCr c rd) (t.writeReg rd (t.readReg rd ||| m)) = .next u ∧
      exec (.mcrCr c rd) (t.writeReg rd (t.readReg rd &&& ~~~m)) = .next v ∧
      ∀ n < 32,
        u.cr.getLsbD n = (s.cr.getLsbD n || (decide (s.cfg.crKindAt n = .rw) && m.getLsbD n)) ∧
        v.cr.getLsbD n = (s.cr.getLsbD n && !m.getLsbD n)

/-- R215: MRC of the Auxiliary control register (`mrcAcr`). -/
def Obligations.AuxiliaryControlRead : Prop :=
  ∀ (c : Cond) (rd : BitVec 4) (s : State), rd ≠ 15 → Reaches c s →
    ∃ t, exec (.mrcAcr c rd) s = .next t ∧ t.readReg rd = s.acr ∧
      Advanced s t ∧ SameRegsBut [rd] s t ∧ SameBut [] s t

/-- R216: MCR to the Auxiliary control register (`mcrAcr`) stores the bits of the write mask; with no control bits it does
nothing. What the bits then do, `ACR_MEANING`, shows only in calls of the handler (log 33). -/
def Obligations.AuxiliaryControlWrite : Prop :=
  ∀ (c : Cond) (rd : BitVec 4) (s : State), rd ≠ 15 → Reaches c s →
    ∃ t, exec (.mcrAcr c rd) s = .next t ∧ t.acr = s.readReg rd &&& s.cfg.acrWmask ∧
      (s.cfg.acrWmask = 0 → s.Inv → t.acr = s.acr) ∧
      Advanced s t ∧ SameRegs s t ∧ SameBut [.acr] s t

/-- R224: MRC of the Coprocessor access register (`mrcCpacr`): the written rights of the implemented coprocessors, flushed
or not, 0b00 for the others. Bits 31 to 28 are a free value, a new one at each read: `draw_4()` in the model's form (log 8,
DESIGN CHOICE). -/
def Obligations.AccessRegisterRead : Prop :=
  ∀ (c : Cond) (rd : BitVec 4) (s : State), rd ≠ 15 → Reaches c s →
    ∃ t, exec (.mrcCpacr c rd) s = .next t ∧
      (∀ n < 14, accessRights (t.readReg rd) n = if s.cfg.cpImplAt n then accessRights s.cpacr n else 0b00) ∧
      (t.readReg rd).extractLsb' 28 4 = Config.draw4 s.draws ∧
      t.draws ≠ s.draws ∧ Advanced s t ∧ SameRegsBut [rd] s t ∧ SameBut [] s t

/-- R225: MCR to the Coprocessor access register (`mcrCpacr`): refused when it writes 0b10 for an implemented coprocessor,
else stored for the implemented coprocessors, with the effective rights unchanged. The refusal is the spec's own decision
(D10), as is the effective copy that the write leaves alone (D11). -/
def Obligations.AccessRegisterWrite : Prop :=
  ∀ (c : Cond) (rd : BitVec 4) (s : State), rd ≠ 15 → Reaches c s →
    ((∃ n < 14, s.cfg.cpImplAt n = true ∧ accessRights (s.readReg rd) n = 0b10) →
      exec (.mcrCpacr c rd) s = .refused .accessRightsReserved) ∧
    ((∀ n < 14, s.cfg.cpImplAt n = true → accessRights (s.readReg rd) n ≠ 0b10) →
      ∃ t, exec (.mcrCpacr c rd) s = .next t ∧
        (∀ n < 14, accessRights t.cpacr n = if s.cfg.cpImplAt n then accessRights (s.readReg rd) n else 0b00) ∧
        t.cpacr.extractLsb' 28 4 = 0#4 ∧ t.cpacrEff = s.cpacrEff ∧
        Advanced s t ∧ SameRegs s t ∧ SameBut [.cpacr] s t)

/-- R227: writing all ones and reading back tells which coprocessors are present. -/
def Obligations.AutoConfiguration : Prop :=
  ∀ (c : Cond) (rd : BitVec 4) (s : State), rd ≠ 15 → Reaches c s → s.readReg rd = 0xFFFFFFFF →
    ∃ t u, exec (.mcrCpacr c rd) s = .next t ∧ exec (.mrcCpacr c rd) t = .next u ∧
      ∀ n < 14, accessRights (u.readReg rd) n = if s.cfg.cpImplAt n then 0b11 else 0b00

/-- R181: opcode2 3 to 7 with CRn = 1 is refused, read or write, in every mode and whatever the condition. The refusal is the
spec's own decision (D5), and so is its place before the condition and the mode (R104, R142 step 2; D4). -/
def Obligations.ReservedSelectorRefused : Prop :=
  ∀ (i : Instr) (c : Cond) (rd : BitVec 4) (opc2 : BitVec 3) (s : State),
    mrcForm i = some (c, rd, ⟨0, 1, 0, opc2⟩) ∨ mcrForm i = some (c, rd, ⟨0, 1, 0, opc2⟩) →
    3 ≤ opc2.toNat → rd ≠ 15 → s.cfg.cp15Absent = false →
    exec i s = .refused .controlSelectorReserved

/-! ### Conditions, modes and encodings (40_register_access.md) -/

/-- R92: the conditions by their field, as the flags N, Z, C, V in CPSR[31:28] decide them. -/
def Obligations.ConditionTable : Prop :=
  ∀ s : State,
    let n := s.cpsr.getLsbD 31
    let z := s.cpsr.getLsbD 30
    let cy := s.cpsr.getLsbD 29
    let v := s.cpsr.getLsbD 28
    ∀ c : Cond, condPassed c s =
      match c.bits.toNat with
      | 0 => z
      | 1 => !z
      | 2 => cy
      | 3 => !cy
      | 4 => n
      | 5 => !n
      | 6 => v
      | 7 => !v
      | 8 => cy && !z
      | 9 => !cy || z
      | 10 => decide (n = v)
      | 11 => decide (n ≠ v)
      | 12 => !z && decide (n = v)
      | 13 => z || decide (n ≠ v)
      | _ => true

/-- R92, R142 step 3: an instruction whose condition fails, and whose encoding is not UNPREDICTABLE, only moves the pc on. -/
def Obligations.FailedConditionOnlyAdvances : Prop :=
  ∀ (i : Instr) (c : Cond) (s : State), instrCond i = some c → condPassed c s = false →
    ((instrClass i).isUndefined = true ∨ s.cfg.cp15Absent = true ∨
      (∃ rd a, mrcForm i = some (c, rd, a) ∧ EncodingLegal s.cfg .read rd a) ∨
      (∃ rd a, mcrForm i = some (c, rd, a) ∧ EncodingLegal s.cfg .write rd a) ∨
      (∃ rn rd op crm, i = .mrrc c rn rd op crm ∧ rd ≠ 15 ∧ rn ≠ 15) ∨
      (∃ rn rd op crm, i = .mcrr c rn rd op crm ∧ rd ≠ 15 ∧ rn ≠ 15)) →
    ∃ t, exec i s = .next t ∧ OnlyAdvances s t

/-- R137, R138, R142 step 4: in User mode every read whose condition passes and whose encoding is not UNPREDICTABLE raises
Undefined Instruction. -/
def Obligations.UserModeReadsTrap : Prop :=
  ∀ (c : Cond) (s : State), s.inUserMode = true → condPassed c s = true →
    (∀ (i : Instr) (rd : BitVec 4) (a : RegAddr), mrcForm i = some (c, rd, a) → EncodingLegal s.cfg .read rd a →
      ∃ t, exec i s = .next t ∧ EntersUndefined s t) ∧
    (∀ rn rd op crm : BitVec 4, rn ≠ 15 → rd ≠ 15 →
      ∃ t, exec (.mrrc c rn rd op crm) s = .next t ∧ EntersUndefined s t)

/-- R137, R138, R142 step 4: so does every write, before v6, and from v6 every write that the user-access list does not
have. -/
def Obligations.UserModeWritesTrap : Prop :=
  ∀ (c : Cond) (s : State), s.inUserMode = true → condPassed c s = true →
    (∀ (i : Instr) (rd : BitVec 4) (a : RegAddr), mcrForm i = some (c, rd, a) → EncodingLegal s.cfg .write rd a →
      s.cfg.arch = .preV6 ∨ ExtTarget.write a ∉ s.cfg.userOps →
      ∃ t, exec i s = .next t ∧ EntersUndefined s t) ∧
    (∀ rn rd op crm : BitVec 4, rn ≠ 15 → rd ≠ 15 →
      s.cfg.arch = .preV6 ∨ ExtTarget.mcrr op crm ∉ s.cfg.userOps →
      ∃ t, exec (.mcrr c rn rd op crm) s = .next t ∧ EntersUndefined s t)

/-- R125 to R136: the forms every CP15 leaves UNDEFINED (`cdp2`, `cdp`, `mrc2`, `mcr2`, `mrrc2`, `mcrr2`, `ldcStcCorner`,
`ldc2`, `ldc`, `stc2`, `stc`) raise Undefined Instruction in every mode, whatever any CP15 register holds. -/
def Obligations.UndefinedFormsTrap : Prop :=
  ∀ (i : Instr) (s : State), (instrClass i).isUndefined = true →
    (∀ c, instrCond i = some c → condPassed c s = true) →
    ∃ t, exec i s = .next t ∧ EntersUndefined s t

/-- R251, R253: primary registers 12 and 14 (`mrcC12`, `mcrC12`, `mrcC14`, `mcrC14`) raise Undefined Instruction from v6, in
every mode, and are refused before v6. -/
def Obligations.Registers12And14 : Prop :=
  ∀ (i : Instr) (c : Cond) (rd : BitVec 4) (a : RegAddr) (s : State),
    mrcForm i = some (c, rd, a) ∨ mcrForm i = some (c, rd, a) → a.opc1 = 0 → a.crn = 12 ∨ a.crn = 14 → rd ≠ 15 →
    (s.cfg.arch = .v6 → condPassed c s = true → ∃ t, exec i s = .next t ∧ EntersUndefined s t) ∧
    (s.cfg.arch = .preV6 → s.cfg.cp15Absent = false → exec i s = .refused .register12Or14BeforeV6)

/-- R104 conditions 1 to 3 and 5 to 8, R142 step 2: the UNPREDICTABLE encodings are refused, each by its name, in every
mode and whatever the condition. That order is the spec's own decision (D4), and so is the refusal of R15 in MCRR and MRRC
(R123, D13). -/
def Obligations.UnpredictableEncodingsRefused : Prop :=
  ∀ (i : Instr) (c : Cond) (rd : BitVec 4) (a : RegAddr) (s : State), s.cfg.cp15Absent = false →
    (mrcForm i = some (c, rd, a) ∨ mcrForm i = some (c, rd, a) →
      (rd = 15 → exec i s = .refused .rdIsPc) ∧
      (rd ≠ 15 → a.opc1 ≠ 0 → a.opc1 ∉ s.cfg.ext.opc1Assigned → exec i s = .refused .opcode1Unassigned) ∧
      (rd ≠ 15 → a.opc1 = 0 → a.crn = 1 → a.crm ≠ 0 → exec i s = .refused .crmNotC0) ∧
      (rd ≠ 15 → a.opc1 = 0 → a.crn = 1 → a.crm = 0 → 3 ≤ a.opc2.toNat → exec i s = .refused .controlSelectorReserved) ∧
      (rd ≠ 15 → a.opc1 = 0 → a.crn = 4 → exec i s = .refused .register4Reserved) ∧
      (rd ≠ 15 → a.opc1 = 0 → a.crn = 12 ∨ a.crn = 14 → s.cfg.arch = .preV6 →
        exec i s = .refused .register12Or14BeforeV6)) ∧
    (mrcForm i = some (c, rd, a) → rd ≠ 15 → a.opc1 = 0 → a.crn = 0 → a.crm ≠ 0 → exec i s = .refused .crmNotC0) ∧
    (mcrForm i = some (c, rd, a) → rd ≠ 15 → a.opc1 = 0 → a.crn = 0 → exec i s = .refused .idRegisterWrite) ∧
    (∀ rn op crm, rd = 15 ∨ rn = 15 →
      exec (.mcrr c rn rd op crm) s = .refused .rdIsPc ∧ exec (.mrrc c rn rd op crm) s = .refused .rdIsPc)

/-- R141: with CP15 absent every CP15 instruction whose condition passes raises Undefined Instruction, in every mode, and
every one whose condition fails does nothing. -/
def Obligations.Cp15AbsentTraps : Prop :=
  ∀ (i : Instr) (s : State), s.cfg.arch = .preV6 → s.cfg.cp15Present = false →
    ((∀ c, instrCond i = some c → condPassed c s = true) → ∃ t, exec i s = .next t ∧ EntersUndefined s t) ∧
    (∀ c, instrCond i = some c → condPassed c s = false → ∃ t, exec i s = .next t ∧ OnlyAdvances s t)

/-! ### The handler (R143 to R145; its form is the model's, log 6) -/

/-- R143, R145: an MRC of a register the handler has (`mrc` with an assigned opcode1, `mrcC2` to `mrcC15`, of which `mrcC4`,
`mrcC12` and `mrcC14` with an assigned opcode1), when the handler serves it, reads the handler's word. -/
def Obligations.HandlerReadsComplete : Prop :=
  ∀ (i : Instr) (c : Cond) (rd : BitVec 4) (a : RegAddr) (s : State),
    mrcForm i = some (c, rd, a) → rd ≠ 15 → ToHandler s.cfg a → Reaches c s → HandlerDone s ⟨.read a, 0, 0⟩ →
    ∃ t, exec i s = .next t ∧ t.readReg rd = Config.extValue s.ext s.implControls ⟨.read a, 0, 0⟩ ∧
      HandlerDid s t ⟨.read a, 0, 0⟩ ∧ Advanced s t ∧ SameRegsBut [rd] s t

/-- R144, R145: an MCR to a register the handler has (`mcr` with an assigned opcode1, `mcrC2` to `mcrC15`, of which `mcrC4`,
`mcrC12` and `mcrC14` with an assigned opcode1; `prefetchFlush`, `dataSyncBarrier`, `dataMemBarrier`), when the handler
serves it, passes it Rd; in User mode too when the user-access list has it. -/
def Obligations.HandlerWritesComplete : Prop :=
  ∀ (i : Instr) (c : Cond) (rd : BitVec 4) (a : RegAddr) (s : State),
    mcrForm i = some (c, rd, a) → rd ≠ 15 → ToHandler s.cfg a → ReachesAs (.write a) c s →
    HandlerDone s ⟨.write a, s.readReg rd, 0⟩ →
    ∃ t, exec i s = .next t ∧ HandlerDid s t ⟨.write a, s.readReg rd, 0⟩ ∧ Advanced s t ∧ SameRegs s t

/-- R123, R145: an MCRR (`mcrr`), when the handler serves it, passes it x[Rd] and x[Rn], in that order. -/
def Obligations.TwoRegisterWritesComplete : Prop :=
  ∀ (c : Cond) (rn rd op crm : BitVec 4) (s : State),
    rd ≠ 15 → rn ≠ 15 → ReachesAs (.mcrr op crm) c s → HandlerDone s ⟨.mcrr op crm, s.readReg rd, s.readReg rn⟩ →
    ∃ t, exec (.mcrr c rn rd op crm) s = .next t ∧ HandlerDid s t ⟨.mcrr op crm, s.readReg rd, s.readReg rn⟩ ∧
      Advanced s t ∧ SameRegs s t

/-- R124, R145: an MRRC (`mrrc`), when the handler serves it, writes its first word to Rd and its second to Rn; of one
register in both places nothing is said but that only it is written (log 21). -/
def Obligations.TwoRegisterReadsComplete : Prop :=
  ∀ (c : Cond) (rn rd op crm : BitVec 4) (s : State),
    rd ≠ 15 → rn ≠ 15 → Reaches c s → HandlerDone s ⟨.mrrc op crm, 0, 0⟩ →
    ∃ t, exec (.mrrc c rn rd op crm) s = .next t ∧
      (rd ≠ rn → t.readReg rd = Config.extValue s.ext s.implControls ⟨.mrrc op crm, 0, 0⟩ ∧
        t.readReg rn = Config.extValue2 s.ext s.implControls ⟨.mrrc op crm, 0, 0⟩) ∧
      HandlerDid s t ⟨.mrrc op crm, 0, 0⟩ ∧ Advanced s t ∧ SameRegsBut [rd, rn] s t

/-- R142 steps 5 to 7, R145: an access that reaches the handler and that it does not serve raises Undefined Instruction, or is
refused, as its verdict says; one that consults an F bit with a meaning, written and not in effect, is refused by R184
(log 33). -/
def Obligations.HandlerTurnsAway : Prop :=
  ∀ (c : Cond) (rd : BitVec 4) (s : State), rd ≠ 15 →
    (∀ (i : Instr) (a : RegAddr), mrcForm i = some (c, rd, a) → ToHandler s.cfg a → Reaches c s →
      (HandlerUndefined s ⟨.read a, 0, 0⟩ → ∃ t, exec i s = .next t ∧ EntersUndefined s t) ∧
      (HandlerUnpredictable s ⟨.read a, 0, 0⟩ → exec i s = .refused .handlerUnpredictable) ∧
      (HandlerUnsettled s ⟨.read a, 0, 0⟩ → exec i s = .refused .controlBitUnsynchronised)) ∧
    (∀ (i : Instr) (a : RegAddr), mcrForm i = some (c, rd, a) → ToHandler s.cfg a → ReachesAs (.write a) c s →
      (HandlerUndefined s ⟨.write a, s.readReg rd, 0⟩ → ∃ t, exec i s = .next t ∧ EntersUndefined s t) ∧
      (HandlerUnpredictable s ⟨.write a, s.readReg rd, 0⟩ → exec i s = .refused .handlerUnpredictable) ∧
      (HandlerUnsettled s ⟨.write a, s.readReg rd, 0⟩ → exec i s = .refused .controlBitUnsynchronised)) ∧
    (∀ rn op crm : BitVec 4, rn ≠ 15 → ReachesAs (.mcrr op crm) c s →
      (HandlerUndefined s ⟨.mcrr op crm, s.readReg rd, s.readReg rn⟩ →
        ∃ t, exec (.mcrr c rn rd op crm) s = .next t ∧ EntersUndefined s t) ∧
      (HandlerUnpredictable s ⟨.mcrr op crm, s.readReg rd, s.readReg rn⟩ →
        exec (.mcrr c rn rd op crm) s = .refused .handlerUnpredictable) ∧
      (HandlerUnsettled s ⟨.mcrr op crm, s.readReg rd, s.readReg rn⟩ →
        exec (.mcrr c rn rd op crm) s = .refused .controlBitUnsynchronised)) ∧
    (∀ rn op crm : BitVec 4, rn ≠ 15 → Reaches c s →
      (HandlerUndefined s ⟨.mrrc op crm, 0, 0⟩ →
        ∃ t, exec (.mrrc c rn rd op crm) s = .next t ∧ EntersUndefined s t) ∧
      (HandlerUnpredictable s ⟨.mrrc op crm, 0, 0⟩ →
        exec (.mrrc c rn rd op crm) s = .refused .handlerUnpredictable) ∧
      (HandlerUnsettled s ⟨.mrrc op crm, 0, 0⟩ →
        exec (.mrrc c rn rd op crm) s = .refused .controlBitUnsynchronised))

/-- R144: a handler that admits PrefetchFlush (`prefetchFlush`) brings both effective copies up to date, in User mode too when
the user-access list has it, and does nothing else. -/
def Obligations.PrefetchFlushCompletes : Prop :=
  ∀ (c : Cond) (rd : BitVec 4) (s : State),
    rd ≠ 15 → ReachesAs (.write ⟨0, 7, 5, 4⟩) c s → s.cfg.extRule (.write ⟨0, 7, 5, 4⟩) = .prefetchFlush →
    ∃ t, exec (.prefetchFlush c rd) s = .next t ∧ t.crEff = s.cr ∧ t.cpacrEff = s.cpacr ∧
      Advanced s t ∧ SameRegs s t ∧ SameBut [.crEff, .cpacrEff] s t

/-- R78: a handler that admits the two barriers (`dataSyncBarrier`, `dataMemBarrier`) lets them do nothing that this machine
of one agent shows, whatever Rd holds. -/
def Obligations.BarriersOnlyAdvance : Prop :=
  ∀ (c : Cond) (rd : BitVec 4) (s : State), rd ≠ 15 →
    (ReachesAs (.write ⟨0, 7, 10, 4⟩) c s → s.cfg.extRule (.write ⟨0, 7, 10, 4⟩) = .noEffect →
      ∃ t, exec (.dataSyncBarrier c rd) s = .next t ∧ OnlyAdvances s t) ∧
    (ReachesAs (.write ⟨0, 7, 10, 5⟩) c s → s.cfg.extRule (.write ⟨0, 7, 10, 5⟩) = .noEffect →
      ∃ t, exec (.dataMemBarrier c rd) s = .next t ∧ OnlyAdvances s t)

/-- R79: when a PrefetchFlush completes, and at an exception entry and an exception return, the written values of the
Coprocessor access and Control registers come into effect. That entry and return synchronise is general knowledge and the
spec's own choice (R268; D11, D12), and the return is the model's operation (log 29, PRESUMED). -/
def Obligations.SynchronisingEvents : Prop :=
  (∀ (c : Cond) (rd : BitVec 4) (s t : State),
    ReachesAs (.write ⟨0, 7, 5, 4⟩) c s → s.cfg.extRule (.write ⟨0, 7, 5, 4⟩) = .prefetchFlush →
    exec (.prefetchFlush c rd) s = .next t → t.crEff = s.cr ∧ t.cpacrEff = s.cpacr) ∧
  (∀ (s : State) (e : Exc), (s.takeException e).crEff = s.cr ∧ (s.takeException e).cpacrEff = s.cpacr) ∧
  (∀ (s t : State) (back : Word), s.exceptionReturn back = .next t → t.crEff = s.cr ∧ t.cpacrEff = s.cpacr)

/-! ### Other coprocessors (R228 to R230) -/

/-- R229: the access check of a coprocessor instruction for coprocessor 0 to 13 whose condition passed. What an
instruction does that the check lets through is outside the spec, and stops by name; so does one for coprocessor 14. One whose
condition fails only moves the pc, and the P = U = N = W = 0 corner of LDC and STC raises Undefined Instruction for every
coprocessor (R102). That a step treats these words so is log 19, and that the check applies with CP15 absent too is log 20
(both DEDUCED). -/
def Obligations.CoprocessorAccessCheck : Prop :=
  (∀ (n : BitVec 4) (c : Option Cond) (s : State), n.toNat < 14 → condFieldPassed c s = true →
    if accessRights s.cpacr n.toNat ≠ accessRights s.cpacrEff n.toNat then
      execCoprocessor n c s = .refused .accessRightsUnsynchronised
    else if ∃ g ∈ s.cfg.cpGroups, (∃ m ∈ g, m.val = n.toNat) ∧
        ∃ j ∈ g, ∃ k ∈ g, accessRights s.cpacrEff j.val ≠ accessRights s.cpacrEff k.val then
      execCoprocessor n c s = .refused .coprocessorGroupUnequal
    else
      (accessRights s.cpacrEff n.toNat = 0b00 → ∃ t, execCoprocessor n c s = .next t ∧ EntersUndefined s t) ∧
      (accessRights s.cpacrEff n.toNat = 0b01 → s.inUserMode = true →
        ∃ t, execCoprocessor n c s = .next t ∧ EntersUndefined s t) ∧
      (accessRights s.cpacrEff n.toNat = 0b01 → s.inUserMode = false →
        execCoprocessor n c s = .refused (.coprocessorOutsideSpec n)) ∧
      (accessRights s.cpacrEff n.toNat = 0b11 → execCoprocessor n c s = .refused (.coprocessorOutsideSpec n)) ∧
      (accessRights s.cpacrEff n.toNat = 0b10 → ¬ s.Inv)) ∧
  (∀ (n : BitVec 4) (c : Option Cond) (s : State), condFieldPassed c s = false →
    ∃ t, execCoprocessor n c s = .next t ∧ OnlyAdvances s t) ∧
  (∀ (c : Option Cond) (s : State), condFieldPassed c s = true → execCoprocessor 14 c s = .refused .cp14OutsideSpec) ∧
  (∀ (c : Option Cond) (s : State), condFieldPassed c s = true →
    ∃ t, execCoprocessorCorner c s = .next t ∧ EntersUndefined s t) ∧
  (∀ (c : Option Cond) (s : State), condFieldPassed c s = false →
    ∃ t, execCoprocessorCorner c s = .next t ∧ OnlyAdvances s t)

/-- R230: after reset all rights are Access denied, and while they are, every coprocessor instruction for coprocessor 0 to 13
raises Undefined Instruction, in every mode. The second clause is a consequence R230 draws from R222, R226, R229 and R50; with
CP15 absent it rests on log 20 (DEDUCED). -/
def Obligations.AccessDeniedAfterReset : Prop :=
  (∀ (cfg : Cfg) (n : Nat), n < 14 → accessRights (State.resetWith cfg).cpacr n = 0b00 ∧
    accessRights (State.resetWith cfg).cpacrEff n = 0b00) ∧
  (∀ (n : BitVec 4) (c : Option Cond) (s : State), n.toNat < 14 → condFieldPassed c s = true →
    s.cpacr = 0 → s.cpacrEff = 0 → ∃ t, execCoprocessor n c s = .next t ∧ EntersUndefined s t)

/-! ### Exceptions (60_exceptions.md) -/

/-- R268, R269: the entry to the Undefined Instruction handler, as the core of the implementation enters it (P22); with the
spec's default, which is general knowledge (D20; log 13), its values written out. -/
def Obligations.UndefinedInstructionEntry : Prop :=
  ∀ s : State, ∃ t, undefinedInstruction s = .next t ∧ EntersUndefined s t ∧
    (s.cfg.coreExc = .generalKnowledge →
      EntersWith s t 29 4 4 0b11011 false false ∧ t.pc = if s.crEff.getLsbD 13 then 0xFFFF0004 else 0x00000004)

/-- R268, R269: the entries to the Data Abort, IRQ and FIQ handlers, as the core of the implementation enters them (P22); with
the spec's default, which is general knowledge (D20; log 13), their values written out. The state the handler owns, where R244
and R261 have an abort recorded, is after a Data Abort a free value of the state before, the address and the count of draws
(log 34, DESIGN CHOICE), and after an interrupt as before. -/
def Obligations.AbortAndInterruptEntries : Prop :=
  ∀ (s : State) (addr : Word),
    (Enters (.dataAbort addr) s (s.takeException (.dataAbort addr)) ∧
      (s.takeException (.dataAbort addr)).ext = Config.extDataAbort s.ext addr s.draws) ∧
    (Enters .irq s (s.takeException .irq) ∧ (s.takeException .irq).ext = s.ext) ∧
    (Enters .fiq s (s.takeException .fiq) ∧ (s.takeException .fiq).ext = s.ext) ∧
    (s.cfg.coreExc = .generalKnowledge →
      EntersWith s (s.takeException (.dataAbort addr)) 25 2 8 0b10111 true false ∧
      EntersWith s (s.takeException .irq) 27 3 4 0b10010 true false ∧
      EntersWith s (s.takeException .fiq) 21 0 4 0b10001 true true)

/-- R197, R206, R262: where the exceptions go. With VE = 1 only IRQ and FIQ go elsewhere. The offsets of the other four are the
spec's default, general knowledge (D20; log 13, log 30); the V and VE are those in CR_EFF (log 15, log 16). -/
def Obligations.ExceptionVectors : Prop :=
  ∀ (s : State) (addr : Word),
    let base : Word := if s.crEff.getLsbD 13 then 0xFFFF0000 else 0x00000000
    (s.cfg.coreExc = .generalKnowledge →
      (s.takeException .undefinedInstruction).pc = base + 0x04 ∧
      (s.takeException .softwareInterrupt).pc = base + 0x08 ∧
      (s.takeException .prefetchAbort).pc = base + 0x0C ∧
      (s.takeException (.dataAbort addr)).pc = base + 0x10) ∧
    (s.crEff.getLsbD 24 = false →
      (s.takeException .irq).pc = base + 0x18 ∧ (s.takeException .fiq).pc = base + 0x1C)

/-- R271: a return to the address the exception interrupted restores the pc, the status and every register of the mode that
was interrupted, unless that is the exception's own mode (log 29), on a core whose return restores the whole status, as the
spec's default does. What an abort recorded stays (log 34). -/
def Obligations.ReturnUndoesEntry : Prop :=
  ∀ (s : State) (e : Exc), s.cfg.coreExc.returnMask = 0xFFFFFFFF → s.modeBits ≠ (s.entry e).mode.bits →
    s.pc.toNat + (s.entry e).linkOffset < 2 ^ 32 →
    ∃ t, (s.takeException e).exceptionReturn (BitVec.ofNat 32 (s.entry e).linkOffset) = .next t ∧
      t.pc = s.pc ∧ t.cpsr = s.cpsr ∧ (∀ i : BitVec 4, i ≠ 15 → t.readReg i = s.readReg i) ∧
      t.ext = (s.takeException e).ext ∧ SameBut [.spsr, .crEff, .cpacrEff, .ext] s t

/-! ### Reset (70_reset_and_hazards.md) -/

/-- R46 to R51: the CP15 registers after reset, in every implementation. That B, U and EE, and V, may be preset, and the
Auxiliary control register too, is the spec's own decision (D19), and the hidden copies are D11's. Before v6 B alone of the
three is preset (R48, R44). -/
def Obligations.ResetControlState : Prop :=
  ∀ cfg : Cfg,
    let r := State.resetWith cfg
    let preset := cfg.endianTable[cfg.cfgend.toNat]'cfg.cfgend.isLt
    (∀ n < 32, r.cr.getLsbD n =
      (decide (cfg.crKindAt n = .rw) &&
        if n = 13 then cfg.vReset
        else if n = 7 then preset.b
        else if n = 22 then decide (cfg.arch = .v6) && preset.u
        else if n = 25 then decide (cfg.arch = .v6) && preset.ee
        else false)) ∧
    r.crEff = r.cr ∧ r.acr = cfg.acrReset &&& cfg.acrWmask ∧ r.cpacr = 0 ∧ r.cpacrEff = 0 ∧ r.cfg = cfg

/-- R270: the core after reset: ARM state, E as EE was preset, the pc in the vector range V selects, the mode and the masks of
the implementation's core (P22); with the spec's default, which is general knowledge (D20; log 13), Supervisor mode, IRQ, FIQ
and imprecise aborts masked, and the pc at offset 0. -/
def Obligations.ResetCoreState : Prop :=
  ∀ cfg : Cfg,
    let r := State.resetWith cfg
    r.modeBits = cfg.coreExc.reset.mode.bits ∧ r.cpsr.getLsbD 5 = false ∧
    r.cpsr.getLsbD 9 = cfg.endianReset.ee ∧
    r.pc = (if cfg.vReset then 0xFFFF0000 else 0x00000000) + vectorOffset cfg.coreExc.resetVector ∧
    (cfg.coreExc = .generalKnowledge →
      r.modeBits = 0b10011 ∧ r.cpsr.getLsbD 6 = true ∧ r.cpsr.getLsbD 7 = true ∧ r.cpsr.getLsbD 8 = true ∧
      r.pc = if cfg.vReset then 0xFFFF0000 else 0x00000000)

/-- The machine meets the invariant after reset, in every implementation. -/
def Obligations.ResetMeetsInvariant : Prop :=
  ∀ cfg : Cfg, (State.resetWith cfg).Inv

/-! ### Every step -/

/-- Every step keeps the invariant, of every state that meets it (R28, R29, R31, R36, R41, R225). -/
def Obligations.StepKeepsInvariant : Prop :=
  ∀ s t : State, s.Inv → step s = .next t → t.Inv

/-- R138, R276: a step in User mode leaves the Control, Auxiliary control and Coprocessor access registers alone and writes no
register and no status; it leaves User mode only by the Undefined Instruction exception. -/
def Obligations.UserModeCannotTouchControl : Prop :=
  ∀ s t : State, s.cfg.wf = true → s.inUserMode = true → step s = .next t →
    t.cr = s.cr ∧ t.acr = s.acr ∧ t.cpacr = s.cpacr ∧
    (EntersUndefined s t ∨ (SameRegs s t ∧ SameBut [.crEff, .cpacrEff, .ext] s t))

/-- R138, R273: what the Control and Auxiliary control registers hold does not show in a step of User mode, where the
implementation gives the ACR bits and the F bit no meaning; where it gives one, what the register holds in the other bits. -/
def Obligations.UserModeCannotLearnControl : Prop :=
  ∀ (s t : State) (cr acr : Word), s.inUserMode = true → step s = .next t →
    (s.cfg.acrMeaning = .noEffect ∨ acr = s.acr) →
    (s.cfg.fMeaning = .noEffect ∨ cr.getLsbD 10 = s.cr.getLsbD 10) →
    ∃ t', step { s with cr := cr, acr := acr } = .next t' ∧
      t'.regs = t.regs ∧ t'.pc = t.pc ∧ t'.cpsr = t.cpsr ∧ t'.spsr = t.spsr ∧ t'.ext = t.ext ∧ t'.mem = t.mem

/-- R303: no step changes one of the three control registers but the MCR to it, whose condition passed, and that one
stores what its rule says of Rd. -/
def Obligations.ControlChangesOnlyByMcr : Prop :=
  ∀ s t : State, step s = .next t →
    (t.cr ≠ s.cr → ∃ w c rd, s.mem.readWord s.pc.toNat = some w ∧ decode w = .instr (.mcrCr c rd) ∧
      condPassed c s = true ∧ t.cr = s.readReg rd &&& s.cfg.rwMask) ∧
    (t.acr ≠ s.acr → ∃ w c rd, s.mem.readWord s.pc.toNat = some w ∧ decode w = .instr (.mcrAcr c rd) ∧
      condPassed c s = true ∧ t.acr = s.readReg rd &&& s.cfg.acrWmask) ∧
    (t.cpacr ≠ s.cpacr → ∃ w c rd, s.mem.readWord s.pc.toNat = some w ∧ decode w = .instr (.mcrCpacr c rd) ∧
      condPassed c s = true ∧ t.cpacr = s.readReg rd &&& s.cfg.implMask)

/-- R45, R274: no step writes memory or an ID register, or any other constant of the implementation. -/
def Obligations.StepKeepsMemoryAndConstants : Prop :=
  ∀ s t : State, step s = .next t → t.cfg = s.cfg ∧ ∀ a, t.mem.readByte a = s.mem.readByte a

/-- R43, R276: no step writes a condition flag, and none changes the status at all but by the Undefined Instruction exception,
the one that saves it. -/
def Obligations.StatusChangesOnlyByException : Prop :=
  ∀ s t : State, step s = .next t →
    t.cpsr.extractLsb' 28 4 = s.cpsr.extractLsb' 28 4 ∧
    ((t.cpsr = s.cpsr ∧ ∀ k : Fin 5, t.spsr[k] = s.spsr[k]) ∨ EntersUndefined s t)

/-- R36: a step moves an effective copy only to the value the register then holds. -/
def Obligations.EffectiveCopiesOnlyCatchUp : Prop :=
  ∀ s t : State, step s = .next t →
    (t.crEff = s.crEff ∨ t.crEff = t.cr) ∧ (t.cpacrEff = s.cpacrEff ∨ t.cpacrEff = t.cpacr)

/-- R263: after every step the pc is at the next word or at the Undefined Instruction vector. -/
def Obligations.StepMovesPc : Prop :=
  ∀ s t : State, step s = .next t → s.pc.toNat + 4 < 2 ^ 32 →
    t.pc = s.pc + 4 ∨
    t.pc = (if s.crEff.getLsbD 13 then 0xFFFF0000 else 0x00000000) +
      vectorOffset s.cfg.coreExc.undefinedInstructionVector

/-! ### Memory, registers, and what reaches the machine from outside -/

/-- A word placed in memory reads back, leaves every other byte alone, and keeps the canonical form (log 11 for the order of
its bytes, which no rule gives). -/
def Obligations.MemoryReadsAsWritten : Prop :=
  ∀ (m : Memory) (k : Nat) (w : Word),
    (m.writeWord k w).readWord k = some w ∧
    (∀ j, j < k ∨ k + 3 < j → (m.writeWord k w).readByte j = m.readByte j) ∧
    (m.wf = true → k + 3 < 2 ^ 32 → (m.writeWord k w).wf = true)

/-- Registers by mode (R40, R269; the banks are general knowledge, log 12): R0 to R7 are one in every mode, R8 to R12 one
but for FIQ, R13 and R14 one of each mode, User and System sharing theirs. -/
def Obligations.RegisterBanks : Prop :=
  ∀ (s t : State) (i j : BitVec 4) (v : Word),
    i ≠ 15 → j ≠ 15 → legalMode s.modeBits = true → legalMode t.modeBits = true → t.regs = (s.writeReg i v).regs →
    t.readReg j =
      if j = i ∧ (i.toNat < 8 ∨ (i.toNat ≤ 12 ∧ (s.modeBits = 0b10001 ↔ t.modeBits = 0b10001)) ∨
          s.modeBits = t.modeBits ∨
          (s.modeBits ∈ [0b10000, 0b11111] ∧ t.modeBits ∈ [0b10000, 0b11111])) then v
      else s.regs[regSlot t.modeBits j]

/-- R66, R184: a data access of 2, 4 or 8 bytes: aligned, it is no matter of these rules; else the Data Abort when A is 1,
whatever U is, and what U says when A is 0. A bit that is consulted and is written and not in effect gives the access no
meaning. That a FIXED1 bit counts as 1 is log 16 (DEDUCED), that the unaligned store with A = 0 and U = 0 answers `notStated` is
log 23 (DESIGN CHOICE). -/
def Obligations.DataAlignment : Prop :=
  ∀ (s : State) (k : Access) (addr : Word) (n : Nat), n ∈ [2, 4, 8] →
    if addr.toNat % n = 0 then s.dataAccess k addr n = .ok .aligned
    else if s.cr.getLsbD 1 ≠ s.crEff.getLsbD 1 then s.dataAccess k addr n = .error .controlBitUnsynchronised
    else if s.crEff.getLsbD 1 = true ∨ s.cfg.crKindAt 1 = .fixed1 then
      s.dataAccess k addr n = .ok (.dataAbort (s.takeException (.dataAbort addr)))
    else if s.cr.getLsbD 22 ≠ s.crEff.getLsbD 22 then s.dataAccess k addr n = .error .controlBitUnsynchronised
    else if s.crEff.getLsbD 22 = true ∨ s.cfg.crKindAt 22 = .fixed1 then s.dataAccess k addr n = .ok .unalignedPermitted
    else
      match k with
      | .load => s.dataAccess k addr n = .ok .rotatedLoad
      | .store => s.dataAccess k addr n = .ok .notStated

/-- R199, R264: the T-bit after LDM (1), LDR or POP loads the PC. While L4 is written and not in effect the load has no meaning
(R184; log 23), and a FIXED1 L4 counts as 1 (log 16, DEDUCED). -/
def Obligations.ThumbInterworking : Prop :=
  ∀ (s : State) (v : Word),
    if s.cr.getLsbD 15 ≠ s.crEff.getLsbD 15 then s.thumbAfterPcLoad v = .error .controlBitUnsynchronised
    else if s.crEff.getLsbD 15 = true ∨ s.cfg.crKindAt 15 = .fixed1 then s.thumbAfterPcLoad v = .ok (s.cpsr.getLsbD 5)
    else s.thumbAfterPcLoad v = .ok (v.getLsbD 0)

/-- R290, R291, R303: asserting reset leaves what reset leaves and memory as it was (log 28). -/
def Obligations.ResetMove : Prop :=
  ∀ s : State, SameBut [.mem] (State.resetWith s.cfg) s.assertReset ∧ s.assertReset.pc = (State.resetWith s.cfg).pc ∧
    SameRegs (State.resetWith s.cfg) s.assertReset ∧ ∀ a, s.assertReset.mem.readByte a = s.mem.readByte a

/-- R265, R303: an interrupt is taken or, when the core masks it, changes nothing (the masks are the family's, log 18). With
VE = 0 it goes to offset 0x18 or 0x1C of the vector range. Its entry is that of the implementation's core, with the spec's
default written out (log 13). -/
def Obligations.InterruptMoves : Prop :=
  ∀ s : State,
    let base : Word := if s.crEff.getLsbD 13 then 0xFFFF0000 else 0x00000000
    (s.cpsr.getLsbD 7 = true → s.raiseIrq = s) ∧
    (s.cpsr.getLsbD 7 = false → Enters .irq s s.raiseIrq ∧ s.raiseIrq.ext = s.ext ∧
      (s.crEff.getLsbD 24 = false → s.raiseIrq.pc = base + 0x18) ∧
      (s.cfg.coreExc = .generalKnowledge → EntersWith s s.raiseIrq 27 3 4 0b10010 true false)) ∧
    (s.cpsr.getLsbD 6 = true → s.raiseFiq = s) ∧
    (s.cpsr.getLsbD 6 = false → Enters .fiq s s.raiseFiq ∧ s.raiseFiq.ext = s.ext ∧
      (s.crEff.getLsbD 24 = false → s.raiseFiq.pc = base + 0x1C) ∧
      (s.cfg.coreExc = .generalKnowledge → EntersWith s s.raiseFiq 21 0 4 0b10001 true true))

/-- R41: every step leaves the pc word-aligned, of any state. Past the top of the address space, where the spec is silent
(D15), that is the model's choice (log 9): some word-aligned address, which nothing else constrains. -/
def Obligations.StepLeavesPcAligned : Prop :=
  ∀ (s t : State), step s = .next t → t.pc.toNat % 4 = 0

end
end

