-- ==== Sys2Proof/Laws/State.lean ====
section
/-! SUPPORT. One lemma per field of every named update of State, so that no later proof unfolds a record update. -/

namespace Sys2Proof.Machine

open Sys2Proof

/-! ### writeReg -/

@[simp] theorem State.writeReg_cfg (s : State) (i : BitVec 4) (v : Word) : (s.writeReg i v).cfg = s.cfg := rfl

@[simp] theorem State.writeReg_regs (s : State) (i : BitVec 4) (v : Word) :
    (s.writeReg i v).regs =
      s.regs.set (regSlot s.modeBits i).val v (regSlot s.modeBits i).isLt := rfl

@[simp] theorem State.writeReg_spsr (s : State) (i : BitVec 4) (v : Word) : (s.writeReg i v).spsr = s.spsr := rfl

@[simp] theorem State.writeReg_pc (s : State) (i : BitVec 4) (v : Word) : (s.writeReg i v).pc = s.pc := rfl

@[simp] theorem State.writeReg_cpsr (s : State) (i : BitVec 4) (v : Word) : (s.writeReg i v).cpsr = s.cpsr := rfl

@[simp] theorem State.writeReg_cr (s : State) (i : BitVec 4) (v : Word) : (s.writeReg i v).cr = s.cr := rfl

@[simp] theorem State.writeReg_crEff (s : State) (i : BitVec 4) (v : Word) : (s.writeReg i v).crEff = s.crEff := rfl

@[simp] theorem State.writeReg_acr (s : State) (i : BitVec 4) (v : Word) : (s.writeReg i v).acr = s.acr := rfl

@[simp] theorem State.writeReg_cpacr (s : State) (i : BitVec 4) (v : Word) : (s.writeReg i v).cpacr = s.cpacr := rfl

@[simp] theorem State.writeReg_cpacrEff (s : State) (i : BitVec 4) (v : Word) :
    (s.writeReg i v).cpacrEff =
      s.cpacrEff := rfl

@[simp] theorem State.writeReg_ext (s : State) (i : BitVec 4) (v : Word) : (s.writeReg i v).ext = s.ext := rfl

@[simp] theorem State.writeReg_mem (s : State) (i : BitVec 4) (v : Word) : (s.writeReg i v).mem = s.mem := rfl

@[simp] theorem State.writeReg_draws (s : State) (i : BitVec 4) (v : Word) : (s.writeReg i v).draws = s.draws := rfl

/-! ### advance -/

@[simp] theorem State.advance_cfg (s : State) : s.advance.cfg = s.cfg := rfl

@[simp] theorem State.advance_regs (s : State) : s.advance.regs = s.regs := rfl

@[simp] theorem State.advance_spsr (s : State) : s.advance.spsr = s.spsr := rfl

@[simp] theorem State.advance_pc (s : State) : s.advance.pc = addressAfter s.pc 4 s.draws := rfl

@[simp] theorem State.advance_cpsr (s : State) : s.advance.cpsr = s.cpsr := rfl

@[simp] theorem State.advance_cr (s : State) : s.advance.cr = s.cr := rfl

@[simp] theorem State.advance_crEff (s : State) : s.advance.crEff = s.crEff := rfl

@[simp] theorem State.advance_acr (s : State) : s.advance.acr = s.acr := rfl

@[simp] theorem State.advance_cpacr (s : State) : s.advance.cpacr = s.cpacr := rfl

@[simp] theorem State.advance_cpacrEff (s : State) : s.advance.cpacrEff = s.cpacrEff := rfl

@[simp] theorem State.advance_ext (s : State) : s.advance.ext = s.ext := rfl

@[simp] theorem State.advance_mem (s : State) : s.advance.mem = s.mem := rfl

@[simp] theorem State.advance_draws (s : State) : s.advance.draws = s.draws + 1 := rfl

/-! ### synchronise -/

@[simp] theorem State.synchronise_cfg (s : State) : s.synchronise.cfg = s.cfg := rfl

@[simp] theorem State.synchronise_regs (s : State) : s.synchronise.regs = s.regs := rfl

@[simp] theorem State.synchronise_spsr (s : State) : s.synchronise.spsr = s.spsr := rfl

@[simp] theorem State.synchronise_pc (s : State) : s.synchronise.pc = s.pc := rfl

@[simp] theorem State.synchronise_cpsr (s : State) : s.synchronise.cpsr = s.cpsr := rfl

@[simp] theorem State.synchronise_cr (s : State) : s.synchronise.cr = s.cr := rfl

@[simp] theorem State.synchronise_crEff (s : State) : s.synchronise.crEff = s.cr := rfl

@[simp] theorem State.synchronise_acr (s : State) : s.synchronise.acr = s.acr := rfl

@[simp] theorem State.synchronise_cpacr (s : State) : s.synchronise.cpacr = s.cpacr := rfl

@[simp] theorem State.synchronise_cpacrEff (s : State) : s.synchronise.cpacrEff = s.cpacr := rfl

@[simp] theorem State.synchronise_ext (s : State) : s.synchronise.ext = s.ext := rfl

@[simp] theorem State.synchronise_mem (s : State) : s.synchronise.mem = s.mem := rfl

@[simp] theorem State.synchronise_draws (s : State) : s.synchronise.draws = s.draws := rfl

/-! ### moveExt -/

@[simp] theorem State.moveExt_cfg (s : State) (call : ExtCall) : (s.moveExt call).cfg = s.cfg := rfl

@[simp] theorem State.moveExt_regs (s : State) (call : ExtCall) : (s.moveExt call).regs = s.regs := rfl

@[simp] theorem State.moveExt_spsr (s : State) (call : ExtCall) : (s.moveExt call).spsr = s.spsr := rfl

@[simp] theorem State.moveExt_pc (s : State) (call : ExtCall) : (s.moveExt call).pc = s.pc := rfl

@[simp] theorem State.moveExt_cpsr (s : State) (call : ExtCall) : (s.moveExt call).cpsr = s.cpsr := rfl

@[simp] theorem State.moveExt_cr (s : State) (call : ExtCall) : (s.moveExt call).cr = s.cr := rfl

@[simp] theorem State.moveExt_crEff (s : State) (call : ExtCall) : (s.moveExt call).crEff = s.crEff := rfl

@[simp] theorem State.moveExt_acr (s : State) (call : ExtCall) : (s.moveExt call).acr = s.acr := rfl

@[simp] theorem State.moveExt_cpacr (s : State) (call : ExtCall) : (s.moveExt call).cpacr = s.cpacr := rfl

@[simp] theorem State.moveExt_cpacrEff (s : State) (call : ExtCall) : (s.moveExt call).cpacrEff = s.cpacrEff := rfl

@[simp] theorem State.moveExt_ext (s : State) (call : ExtCall) :
    (s.moveExt call).ext = Config.extNext s.ext s.implControls call := rfl

@[simp] theorem State.moveExt_mem (s : State) (call : ExtCall) : (s.moveExt call).mem = s.mem := rfl

@[simp] theorem State.moveExt_draws (s : State) (call : ExtCall) : (s.moveExt call).draws = s.draws := rfl

/-! ### crWrite -/

@[simp] theorem State.crWrite_cfg (s : State) (v : Word) : (s.crWrite v).cfg = s.cfg := rfl

@[simp] theorem State.crWrite_regs (s : State) (v : Word) : (s.crWrite v).regs = s.regs := rfl

@[simp] theorem State.crWrite_spsr (s : State) (v : Word) : (s.crWrite v).spsr = s.spsr := rfl

@[simp] theorem State.crWrite_pc (s : State) (v : Word) : (s.crWrite v).pc = s.pc := rfl

@[simp] theorem State.crWrite_cpsr (s : State) (v : Word) : (s.crWrite v).cpsr = s.cpsr := rfl

@[simp] theorem State.crWrite_cr (s : State) (v : Word) : (s.crWrite v).cr = v &&& s.cfg.rwMask := rfl

@[simp] theorem State.crWrite_crEff (s : State) (v : Word) :
    (s.crWrite v).crEff =
      (match s.cfg.crVisibility with
       | .immediate => v &&& s.cfg.rwMask
       | .afterFlush => s.crEff) := rfl

@[simp] theorem State.crWrite_acr (s : State) (v : Word) : (s.crWrite v).acr = s.acr := rfl

@[simp] theorem State.crWrite_cpacr (s : State) (v : Word) : (s.crWrite v).cpacr = s.cpacr := rfl

@[simp] theorem State.crWrite_cpacrEff (s : State) (v : Word) : (s.crWrite v).cpacrEff = s.cpacrEff := rfl

@[simp] theorem State.crWrite_ext (s : State) (v : Word) : (s.crWrite v).ext = s.ext := rfl

@[simp] theorem State.crWrite_mem (s : State) (v : Word) : (s.crWrite v).mem = s.mem := rfl

@[simp] theorem State.crWrite_draws (s : State) (v : Word) : (s.crWrite v).draws = s.draws := rfl

/-! ### acrWrite -/

@[simp] theorem State.acrWrite_cfg (s : State) (v : Word) : (s.acrWrite v).cfg = s.cfg := rfl

@[simp] theorem State.acrWrite_regs (s : State) (v : Word) : (s.acrWrite v).regs = s.regs := rfl

@[simp] theorem State.acrWrite_spsr (s : State) (v : Word) : (s.acrWrite v).spsr = s.spsr := rfl

@[simp] theorem State.acrWrite_pc (s : State) (v : Word) : (s.acrWrite v).pc = s.pc := rfl

@[simp] theorem State.acrWrite_cpsr (s : State) (v : Word) : (s.acrWrite v).cpsr = s.cpsr := rfl

@[simp] theorem State.acrWrite_cr (s : State) (v : Word) : (s.acrWrite v).cr = s.cr := rfl

@[simp] theorem State.acrWrite_crEff (s : State) (v : Word) : (s.acrWrite v).crEff = s.crEff := rfl

@[simp] theorem State.acrWrite_acr (s : State) (v : Word) : (s.acrWrite v).acr = v &&& s.cfg.acrWmask := rfl

@[simp] theorem State.acrWrite_cpacr (s : State) (v : Word) : (s.acrWrite v).cpacr = s.cpacr := rfl

@[simp] theorem State.acrWrite_cpacrEff (s : State) (v : Word) : (s.acrWrite v).cpacrEff = s.cpacrEff := rfl

@[simp] theorem State.acrWrite_ext (s : State) (v : Word) : (s.acrWrite v).ext = s.ext := rfl

@[simp] theorem State.acrWrite_mem (s : State) (v : Word) : (s.acrWrite v).mem = s.mem := rfl

@[simp] theorem State.acrWrite_draws (s : State) (v : Word) : (s.acrWrite v).draws = s.draws := rfl

/-! ### cpacrWrite -/

@[simp] theorem State.cpacrWrite_cfg (s : State) (v : Word) : (s.cpacrWrite v).cfg = s.cfg := rfl

@[simp] theorem State.cpacrWrite_regs (s : State) (v : Word) : (s.cpacrWrite v).regs = s.regs := rfl

@[simp] theorem State.cpacrWrite_spsr (s : State) (v : Word) : (s.cpacrWrite v).spsr = s.spsr := rfl

@[simp] theorem State.cpacrWrite_pc (s : State) (v : Word) : (s.cpacrWrite v).pc = s.pc := rfl

@[simp] theorem State.cpacrWrite_cpsr (s : State) (v : Word) : (s.cpacrWrite v).cpsr = s.cpsr := rfl

@[simp] theorem State.cpacrWrite_cr (s : State) (v : Word) : (s.cpacrWrite v).cr = s.cr := rfl

@[simp] theorem State.cpacrWrite_crEff (s : State) (v : Word) : (s.cpacrWrite v).crEff = s.crEff := rfl

@[simp] theorem State.cpacrWrite_acr (s : State) (v : Word) : (s.cpacrWrite v).acr = s.acr := rfl

@[simp] theorem State.cpacrWrite_cpacr (s : State) (v : Word) : (s.cpacrWrite v).cpacr = v &&& s.cfg.implMask := rfl

@[simp] theorem State.cpacrWrite_cpacrEff (s : State) (v : Word) : (s.cpacrWrite v).cpacrEff = s.cpacrEff := rfl

@[simp] theorem State.cpacrWrite_ext (s : State) (v : Word) : (s.cpacrWrite v).ext = s.ext := rfl

@[simp] theorem State.cpacrWrite_mem (s : State) (v : Word) : (s.cpacrWrite v).mem = s.mem := rfl

@[simp] theorem State.cpacrWrite_draws (s : State) (v : Word) : (s.cpacrWrite v).draws = s.draws := rfl

/-! ### takeException -/

@[simp] theorem State.takeException_cfg (s : State) (e : Exc) : (s.takeException e).cfg = s.cfg := rfl

@[simp] theorem State.takeException_regs (s : State) (e : Exc) :
    (s.takeException e).regs =
      s.regs.set (regSlot (s.entry e).mode.bits 14).val (addressAfter s.pc (s.entry e).linkOffset s.draws)
        (regSlot (s.entry e).mode.bits 14).isLt := rfl

@[simp] theorem State.takeException_spsr (s : State) (e : Exc) :
    (s.takeException e).spsr =
      s.spsr.set (s.entry e).mode.spsrIndex.val s.cpsr (s.entry e).mode.spsrIndex.isLt := rfl

@[simp] theorem State.takeException_pc (s : State) (e : Exc) : (s.takeException e).pc = s.vector e := rfl

@[simp] theorem State.takeException_cpsr (s : State) (e : Exc) :
    (s.takeException e).cpsr =
      entryStatus (s.entry e).toEntryStatus (s.crEff.getLsbD 25) s.cpsr := rfl

@[simp] theorem State.takeException_cr (s : State) (e : Exc) : (s.takeException e).cr = s.cr := rfl

@[simp] theorem State.takeException_crEff (s : State) (e : Exc) : (s.takeException e).crEff = s.cr := rfl

@[simp] theorem State.takeException_acr (s : State) (e : Exc) : (s.takeException e).acr = s.acr := rfl

@[simp] theorem State.takeException_cpacr (s : State) (e : Exc) : (s.takeException e).cpacr = s.cpacr := rfl

@[simp] theorem State.takeException_cpacrEff (s : State) (e : Exc) : (s.takeException e).cpacrEff = s.cpacr := rfl

@[simp] theorem State.takeException_ext (s : State) (e : Exc) : (s.takeException e).ext = s.extAfter e := rfl

@[simp] theorem State.takeException_mem (s : State) (e : Exc) : (s.takeException e).mem = s.mem := rfl

@[simp] theorem State.takeException_draws (s : State) (e : Exc) : (s.takeException e).draws = s.draws + 1 := rfl

/-- The Undefined Instruction exception records nothing. -/
@[simp] theorem State.extAfter_undefinedInstruction (s : State) : s.extAfter .undefinedInstruction = s.ext := rfl

@[simp] theorem State.extAfter_irq (s : State) : s.extAfter .irq = s.ext := rfl

@[simp] theorem State.extAfter_fiq (s : State) : s.extAfter .fiq = s.ext := rfl

/-! ### withFetchWord -/

@[simp] theorem State.withFetchWord_cfg (s : State) (nbits w : Nat) : (s.withFetchWord nbits w).cfg = s.cfg := rfl

@[simp] theorem State.withFetchWord_regs (s : State) (nbits w : Nat) : (s.withFetchWord nbits w).regs = s.regs := rfl

@[simp] theorem State.withFetchWord_spsr (s : State) (nbits w : Nat) : (s.withFetchWord nbits w).spsr = s.spsr := rfl

@[simp] theorem State.withFetchWord_pc (s : State) (nbits w : Nat) : (s.withFetchWord nbits w).pc = s.pc := rfl

@[simp] theorem State.withFetchWord_cpsr (s : State) (nbits w : Nat) : (s.withFetchWord nbits w).cpsr = s.cpsr := rfl

@[simp] theorem State.withFetchWord_cr (s : State) (nbits w : Nat) : (s.withFetchWord nbits w).cr = s.cr := rfl

@[simp] theorem State.withFetchWord_crEff (s : State) (nbits w : Nat) : (s.withFetchWord nbits w).crEff = s.crEff := rfl

@[simp] theorem State.withFetchWord_acr (s : State) (nbits w : Nat) : (s.withFetchWord nbits w).acr = s.acr := rfl

@[simp] theorem State.withFetchWord_cpacr (s : State) (nbits w : Nat) : (s.withFetchWord nbits w).cpacr = s.cpacr := rfl

@[simp] theorem State.withFetchWord_cpacrEff (s : State) (nbits w : Nat) :
    (s.withFetchWord nbits w).cpacrEff =
      s.cpacrEff := rfl

@[simp] theorem State.withFetchWord_ext (s : State) (nbits w : Nat) : (s.withFetchWord nbits w).ext = s.ext := rfl

@[simp] theorem State.withFetchWord_mem (s : State) (nbits w : Nat) :
    (s.withFetchWord nbits w).mem =
      s.mem.writeWord s.pc.toNat (tableWord nbits w) := rfl

@[simp] theorem State.withFetchWord_draws (s : State) (nbits w : Nat) : (s.withFetchWord nbits w).draws = s.draws := rfl

/-! ### resetWith -/

@[simp] theorem State.resetWith_cfg (c : Cfg) : (State.resetWith c).cfg = c := rfl

@[simp] theorem State.resetWith_regs (c : Cfg) : (State.resetWith c).regs = Vector.replicate 30 0 := rfl

@[simp] theorem State.resetWith_spsr (c : Cfg) : (State.resetWith c).spsr = Vector.replicate 5 0 := rfl

@[simp] theorem State.resetWith_pc (c : Cfg) : (State.resetWith c).pc = c.resetPc := rfl

@[simp] theorem State.resetWith_cpsr (c : Cfg) : (State.resetWith c).cpsr = c.resetCpsr := rfl

@[simp] theorem State.resetWith_cr (c : Cfg) : (State.resetWith c).cr = c.resetCr := rfl

@[simp] theorem State.resetWith_crEff (c : Cfg) : (State.resetWith c).crEff = c.resetCr := rfl

@[simp] theorem State.resetWith_acr (c : Cfg) : (State.resetWith c).acr = c.resetAcr := rfl

@[simp] theorem State.resetWith_cpacr (c : Cfg) : (State.resetWith c).cpacr = 0 := rfl

@[simp] theorem State.resetWith_cpacrEff (c : Cfg) : (State.resetWith c).cpacrEff = 0 := rfl

@[simp] theorem State.resetWith_ext (c : Cfg) : (State.resetWith c).ext = c.ext.resetState := rfl

@[simp] theorem State.resetWith_mem (c : Cfg) : (State.resetWith c).mem = [] := rfl

@[simp] theorem State.resetWith_draws (c : Cfg) : (State.resetWith c).draws = 0 := rfl

end Sys2Proof.Machine
end

