-- ==== Sys2Proof/Laws/Access.lean ====
section
/-! SUPPORT. What each shared operation of the register accesses can do, once: if it answers a next state, then which. -/

namespace Sys2Proof.Machine

open Sys2Proof

/-! ### The forms -/

/-- Every MRC is the one MRC operation. -/
theorem exec_mrcForm {i : Instr} {c : Cond} {rd : BitVec 4} {a : RegAddr} (h : mrcForm i = some (c, rd, a)) (s : State) :
    exec i s = mrcOp c rd a s := by
  cases i <;> simp only [mrcForm, Option.some.injEq, Prod.mk.injEq, reduceCtorEq] at h <;>
    (obtain ⟨rfl, rfl, rfl⟩ := h; rfl)

/-- Every MCR is the one MCR operation. -/
theorem exec_mcrForm {i : Instr} {c : Cond} {rd : BitVec 4} {a : RegAddr} (h : mcrForm i = some (c, rd, a)) (s : State) :
    exec i s = mcrOp c rd a s := by
  cases i <;> simp only [mcrForm, Option.some.injEq, Prod.mk.injEq, reduceCtorEq] at h <;>
    (obtain ⟨rfl, rfl, rfl⟩ := h; rfl)

/-! ### The handler (R145) -/

/-- A call that is done leaves the state as it was, with the owned state moved, or synchronised. -/
theorem extAnswer_done {call : ExtCall} {s s' : State} (h : extAnswer call s = .done s') :
    s' = s ∨ s' = s.moveExt call ∨ s' = s.synchronise := by
  unfold extAnswer at h
  split at h
  · cases h
  · cases h
  · cases h
    exact .inl rfl
  · cases h
    exact .inr (.inr rfl)
  · split at h <;> cases h
    exact .inr (.inl rfl)
  · split at h
    · cases h
    · split at h <;> cases h
      exact .inr (.inl rfl)

theorem extRead_value {a : RegAddr} {s s' : State} {v : Word} (h : extRead a s = .value v s') :
    extAnswer ⟨.read a, 0, 0⟩ s = .done s' ∧ v = s.extValue ⟨.read a, 0, 0⟩ := by
  unfold extRead at h
  split at h <;> cases h
  exact ⟨‹_›, rfl⟩

theorem extWrite_done {a : RegAddr} {s s' : State} {v : Word} (h : extWrite a v s = .done s') :
    extAnswer ⟨.write a, v, 0⟩ s = .done s' := by
  unfold extWrite at h
  split at h <;> cases h
  assumption

/-! ### CP15Read and CP15Write (R143, R144) -/

/-- A read has no effect but the handler's. -/
theorem cp15Read_value {a : RegAddr} {s s' : State} {v : Word} (h : cp15Read a s = .value v s') :
    s' = s ∨ extAnswer ⟨.read a, 0, 0⟩ s = .done s' := by
  unfold cp15Read at h
  split at h
  · cases h
  · split at h
    · exact .inr (extRead_value h).1
    · split at h
      · cases h
        exact .inl rfl
      · split at h
        · unfold readControl at h
          split at h <;> cases h <;> exact .inl rfl
        · split at h
          · cases h
          · exact .inr (extRead_value h).1

/-- A write stores one of the three control registers, or is the handler's. -/
theorem cp15Write_done {a : RegAddr} {s s' : State} {v : Word} (h : cp15Write a v s = .done s') :
    (a = ⟨0, 1, 0, 0⟩ ∧ s' = s.crWrite v) ∨ (a = ⟨0, 1, 0, 1⟩ ∧ s' = s.acrWrite v) ∨
    (a = ⟨0, 1, 0, 2⟩ ∧ hasReservedRights (v &&& s.cfg.implMask) = false ∧ s' = s.cpacrWrite v) ∨
    (¬ (a.opc1 = 0 ∧ a.crn.toNat ≤ 1) ∧ extAnswer ⟨.write a, v, 0⟩ s = .done s') := by
  obtain ⟨opc1, crn, crm, opc2⟩ := a
  unfold cp15Write at h
  split at h
  · cases h
  next hr =>
    simp only at h
    split at h
    next h1 => exact .inr (.inr (.inr ⟨fun k => h1 k.1, extWrite_done h⟩))
    next h1 =>
      have h1 : opc1 = 0 := not_not.mp h1
      subst h1
      split at h
      next h2 =>
        subst h2
        have hm : crm = 0 := by
          by_contra hm
          have hm' : ¬ crm = 0#4 := hm
          simp [addressRefusal, hm'] at hr
        subst hm
        unfold writeControl at h
        have eq3 (k : Nat) (hk : k < 8) (e : opc2.toNat = k) : opc2 = BitVec.ofNat 3 k := by
          apply BitVec.eq_of_toNat_eq
          simp [e]
          omega
        split at h
        next e =>
          cases h
          obtain rfl := eq3 0 (by omega) e
          exact .inl ⟨rfl, rfl⟩
        next e =>
          cases h
          obtain rfl := eq3 1 (by omega) e
          exact .inr (.inl ⟨rfl, rfl⟩)
        next e =>
          split at h
          · cases h
          next hw =>
            cases h
            obtain rfl := eq3 2 (by omega) e
            exact .inr (.inr (.inl ⟨rfl, by simpa using hw, rfl⟩))
        · cases h
      next h2 =>
        split at h
        · cases h
        · refine .inr (.inr (.inr ⟨fun k => ?_, extWrite_done h⟩))
          have h3 : crn.toNat ≠ 1 := fun e => h2 (BitVec.eq_of_toNat_eq e)
          have h4 : crn = 0 := BitVec.eq_of_toNat_eq (by have := k.2; simp only at this; simp; omega)
          subst h4
          simp [addressRefusal] at hr

/-! ### The four operations (R142) -/

theorem withoutCp15_next {c : Cond} {s t : State} (h : withoutCp15 c s = .next t) :
    t = s.advance ∨ t = s.takeException .undefinedInstruction := by
  unfold withoutCp15 undefinedInstruction at h
  split at h <;> cases h
  · exact .inr rfl
  · exact .inl rfl

/-- An MRC passes its condition by, traps, or in a privileged mode reads. -/
theorem mrcOp_next {c : Cond} {rd : BitVec 4} {a : RegAddr} {s t : State} (h : mrcOp c rd a s = .next t) :
    t = s.advance ∨ t = s.takeException .undefinedInstruction ∨
    (condPassed c s = true ∧ s.inUserMode = false ∧
      ∃ v s', cp15Read a s = .value v s' ∧ t = (s'.writeReg rd v).advance) := by
  unfold mrcOp at h
  split at h
  · exact (withoutCp15_next h).imp id .inl
  · split at h
    · cases h
    · split at h
      · cases h
        exact .inl rfl
      next hc =>
        split at h
        · cases h
          exact .inr (.inl rfl)
        next hu =>
          unfold readAccess at h
          split at h
          next hv =>
            cases h
            exact .inr (.inr ⟨by simpa using hc, by simpa using hu, _, _, hv, rfl⟩)
          · cases h
            exact .inr (.inl rfl)
          · cases h

/-- An MCR passes its condition by, traps, or writes, in User mode only what the user-access list has. -/
theorem mcrOp_next {c : Cond} {rd : BitVec 4} {a : RegAddr} {s t : State} (h : mcrOp c rd a s = .next t) :
    t = s.advance ∨ t = s.takeException .undefinedInstruction ∨
    (condPassed c s = true ∧ (s.inUserMode = true → s.cfg.userAllows (.write a) = true) ∧
      ∃ s', cp15Write a (s.readReg rd) s = .done s' ∧ t = s'.advance) := by
  unfold mcrOp at h
  split at h
  · exact (withoutCp15_next h).imp id .inl
  · split at h
    · cases h
    · split at h
      · cases h
        exact .inl rfl
      next hc =>
        split at h
        · cases h
          exact .inr (.inl rfl)
        next hu =>
          unfold writeAccess at h
          split at h
          next hv =>
            cases h
            exact .inr (.inr ⟨by simpa using hc, by simpa using hu, _, hv, rfl⟩)
          · cases h
            exact .inr (.inl rfl)
          · cases h

/-- An MCRR passes its condition by, traps, or is the handler's. -/
theorem mcrrOp_next {c : Cond} {rn rd op crm : BitVec 4} {s t : State} (h : mcrrOp c rn rd op crm s = .next t) :
    t = s.advance ∨ t = s.takeException .undefinedInstruction ∨
    (condPassed c s = true ∧ (s.inUserMode = true → s.cfg.userAllows (.mcrr op crm) = true) ∧
      ∃ s', extAnswer ⟨.mcrr op crm, s.readReg rd, s.readReg rn⟩ s = .done s' ∧ t = s'.advance) := by
  unfold mcrrOp at h
  split at h
  · exact (withoutCp15_next h).imp id .inl
  · split at h
    · cases h
    · split at h
      · cases h
        exact .inl rfl
      next hc =>
        split at h
        · cases h
          exact .inr (.inl rfl)
        next hu =>
          unfold mcrrAccess at h
          split at h
          next hv =>
            cases h
            exact .inr (.inr ⟨by simpa using hc, by simpa using hu, _, hv, rfl⟩)
          · cases h
            exact .inr (.inl rfl)
          · cases h

/-- An MRRC passes its condition by, traps, or in a privileged mode reads two words of the handler. -/
theorem mrrcOp_next {c : Cond} {rn rd op crm : BitVec 4} {s t : State} (h : mrrcOp c rn rd op crm s = .next t) :
    t = s.advance ∨ t = s.takeException .undefinedInstruction ∨
    (condPassed c s = true ∧ s.inUserMode = false ∧
      ∃ s' v1 v2, extAnswer ⟨.mrrc op crm, 0, 0⟩ s = .done s' ∧ t = (s'.writeRegPair rd rn v1 v2).advance) := by
  unfold mrrcOp at h
  split at h
  · exact (withoutCp15_next h).imp id .inl
  · split at h
    · cases h
    · split at h
      · cases h
        exact .inl rfl
      next hc =>
        split at h
        · cases h
          exact .inr (.inl rfl)
        next hu =>
          unfold mrrcAccess at h
          split at h
          next hv =>
            cases h
            exact .inr (.inr ⟨by simpa using hc, by simpa using hu, _, _, _, hv, rfl⟩)
          · cases h
            exact .inr (.inl rfl)
          · cases h

/-- A form every CP15 leaves UNDEFINED passes its condition by or traps. -/
theorem undefinedForm_next {c : Option Cond} {s t : State} (h : undefinedForm c s = .next t) :
    t = s.advance ∨ t = s.takeException .undefinedInstruction := by
  unfold undefinedForm undefinedInstruction at h
  split at h <;> cases h
  · exact .inr rfl
  · exact .inl rfl

end Sys2Proof.Machine
end

