-- ==== Sys2Proof/Laws/Fields.lean ====
section
/-! SUPPORT. The fields of the four word formats, the cond field, and what the decoder makes of each format. -/

namespace Sys2Proof

@[simp] theorem condOfBits_bits (c : Cond) : condOfBits c.bits = some c := by
  cases c <;> rfl

/-- A cond field that names a condition is that condition's. -/
theorem bits_of_condOfBits : ∀ (b : BitVec 4) (c : Cond), condOfBits b = some c → c.bits = b := by
  decide

/-- Only 0b1111 names no condition (R92). -/
theorem condOfBits_eq_none : ∀ b : BitVec 4, condOfBits b = none ↔ b = 0b1111 := by
  decide

@[simp] theorem condOfBits_condBits (c : Option Cond) : condOfBits (condBits c) = c := by
  cases c with
  | none => rfl
  | some c => exact condOfBits_bits c

theorem condBits_condOfBits : ∀ b : BitVec 4, condBits (condOfBits b) = b := by
  decide

/-- Fields are read bit by bit. -/
theorem field_getLsbD (w : Word) (lo len i : Nat) : (field w lo len).getLsbD i = (decide (i < len) && w.getLsbD (lo + i)) :=
  BitVec.getLsbD_extractLsb' ..

/-! ### cdpWord -/

@[simp] theorem field_28_4_cdpWord (c opc1 crn crd : BitVec 4) (opc2 : BitVec 3) (crm : BitVec 4) :
    field (cdpWord c opc1 crn crd opc2 crm) 28 4 = c := by
  apply BitVec.eq_of_getLsbD_eq
  intro i hi
  rw [field_getLsbD]
  interval_cases i <;> simp only [cdpWord, BitVec.getLsbD_append] <;> simp

@[simp] theorem field_24_4_cdpWord (c opc1 crn crd : BitVec 4) (opc2 : BitVec 3) (crm : BitVec 4) :
    field (cdpWord c opc1 crn crd opc2 crm) 24 4 = 0b1110 := by
  apply BitVec.eq_of_getLsbD_eq
  intro i hi
  rw [field_getLsbD]
  interval_cases i <;> simp only [cdpWord, BitVec.getLsbD_append] <;> simp

@[simp] theorem field_20_4_cdpWord (c opc1 crn crd : BitVec 4) (opc2 : BitVec 3) (crm : BitVec 4) :
    field (cdpWord c opc1 crn crd opc2 crm) 20 4 = opc1 := by
  apply BitVec.eq_of_getLsbD_eq
  intro i hi
  rw [field_getLsbD]
  interval_cases i <;> simp only [cdpWord, BitVec.getLsbD_append] <;> simp

@[simp] theorem field_16_4_cdpWord (c opc1 crn crd : BitVec 4) (opc2 : BitVec 3) (crm : BitVec 4) :
    field (cdpWord c opc1 crn crd opc2 crm) 16 4 = crn := by
  apply BitVec.eq_of_getLsbD_eq
  intro i hi
  rw [field_getLsbD]
  interval_cases i <;> simp only [cdpWord, BitVec.getLsbD_append] <;> simp

@[simp] theorem field_12_4_cdpWord (c opc1 crn crd : BitVec 4) (opc2 : BitVec 3) (crm : BitVec 4) :
    field (cdpWord c opc1 crn crd opc2 crm) 12 4 = crd := by
  apply BitVec.eq_of_getLsbD_eq
  intro i hi
  rw [field_getLsbD]
  interval_cases i <;> simp only [cdpWord, BitVec.getLsbD_append] <;> simp

@[simp] theorem field_8_4_cdpWord (c opc1 crn crd : BitVec 4) (opc2 : BitVec 3) (crm : BitVec 4) :
    field (cdpWord c opc1 crn crd opc2 crm) 8 4 = 0b1111 := by
  apply BitVec.eq_of_getLsbD_eq
  intro i hi
  rw [field_getLsbD]
  interval_cases i <;> simp only [cdpWord, BitVec.getLsbD_append] <;> simp

@[simp] theorem field_5_3_cdpWord (c opc1 crn crd : BitVec 4) (opc2 : BitVec 3) (crm : BitVec 4) :
    field (cdpWord c opc1 crn crd opc2 crm) 5 3 = opc2 := by
  apply BitVec.eq_of_getLsbD_eq
  intro i hi
  rw [field_getLsbD]
  interval_cases i <;> simp only [cdpWord, BitVec.getLsbD_append] <;> simp

@[simp] theorem field_4_1_cdpWord (c opc1 crn crd : BitVec 4) (opc2 : BitVec 3) (crm : BitVec 4) :
    field (cdpWord c opc1 crn crd opc2 crm) 4 1 = 0 := by
  apply BitVec.eq_of_getLsbD_eq
  intro i hi
  rw [field_getLsbD]
  interval_cases i
  simp only [cdpWord, BitVec.getLsbD_append]
  simp

@[simp] theorem field_0_4_cdpWord (c opc1 crn crd : BitVec 4) (opc2 : BitVec 3) (crm : BitVec 4) :
    field (cdpWord c opc1 crn crd opc2 crm) 0 4 = crm := by
  apply BitVec.eq_of_getLsbD_eq
  intro i hi
  rw [field_getLsbD]
  interval_cases i <;> simp only [cdpWord, BitVec.getLsbD_append] <;> simp

/-! ### mcrWord -/

@[simp] theorem field_28_4_mcrWord (c : BitVec 4) (opc1 : BitVec 3) (l : BitVec 1) (crn rd : BitVec 4) (opc2 : BitVec 3) (crm : BitVec 4) :
    field (mcrWord c opc1 l crn rd opc2 crm) 28 4 = c := by
  apply BitVec.eq_of_getLsbD_eq
  intro i hi
  rw [field_getLsbD]
  interval_cases i <;> simp only [mcrWord, BitVec.getLsbD_append] <;> simp

@[simp] theorem field_24_4_mcrWord (c : BitVec 4) (opc1 : BitVec 3) (l : BitVec 1) (crn rd : BitVec 4) (opc2 : BitVec 3) (crm : BitVec 4) :
    field (mcrWord c opc1 l crn rd opc2 crm) 24 4 = 0b1110 := by
  apply BitVec.eq_of_getLsbD_eq
  intro i hi
  rw [field_getLsbD]
  interval_cases i <;> simp only [mcrWord, BitVec.getLsbD_append] <;> simp

@[simp] theorem field_21_3_mcrWord (c : BitVec 4) (opc1 : BitVec 3) (l : BitVec 1) (crn rd : BitVec 4) (opc2 : BitVec 3) (crm : BitVec 4) :
    field (mcrWord c opc1 l crn rd opc2 crm) 21 3 = opc1 := by
  apply BitVec.eq_of_getLsbD_eq
  intro i hi
  rw [field_getLsbD]
  interval_cases i <;> simp only [mcrWord, BitVec.getLsbD_append] <;> simp

@[simp] theorem field_20_1_mcrWord (c : BitVec 4) (opc1 : BitVec 3) (l : BitVec 1) (crn rd : BitVec 4) (opc2 : BitVec 3) (crm : BitVec 4) :
    field (mcrWord c opc1 l crn rd opc2 crm) 20 1 = l := by
  apply BitVec.eq_of_getLsbD_eq
  intro i hi
  rw [field_getLsbD]
  interval_cases i
  simp only [mcrWord, BitVec.getLsbD_append]
  simp

@[simp] theorem field_16_4_mcrWord (c : BitVec 4) (opc1 : BitVec 3) (l : BitVec 1) (crn rd : BitVec 4) (opc2 : BitVec 3) (crm : BitVec 4) :
    field (mcrWord c opc1 l crn rd opc2 crm) 16 4 = crn := by
  apply BitVec.eq_of_getLsbD_eq
  intro i hi
  rw [field_getLsbD]
  interval_cases i <;> simp only [mcrWord, BitVec.getLsbD_append] <;> simp

@[simp] theorem field_12_4_mcrWord (c : BitVec 4) (opc1 : BitVec 3) (l : BitVec 1) (crn rd : BitVec 4) (opc2 : BitVec 3) (crm : BitVec 4) :
    field (mcrWord c opc1 l crn rd opc2 crm) 12 4 = rd := by
  apply BitVec.eq_of_getLsbD_eq
  intro i hi
  rw [field_getLsbD]
  interval_cases i <;> simp only [mcrWord, BitVec.getLsbD_append] <;> simp

@[simp] theorem field_8_4_mcrWord (c : BitVec 4) (opc1 : BitVec 3) (l : BitVec 1) (crn rd : BitVec 4) (opc2 : BitVec 3) (crm : BitVec 4) :
    field (mcrWord c opc1 l crn rd opc2 crm) 8 4 = 0b1111 := by
  apply BitVec.eq_of_getLsbD_eq
  intro i hi
  rw [field_getLsbD]
  interval_cases i <;> simp only [mcrWord, BitVec.getLsbD_append] <;> simp

@[simp] theorem field_5_3_mcrWord (c : BitVec 4) (opc1 : BitVec 3) (l : BitVec 1) (crn rd : BitVec 4) (opc2 : BitVec 3) (crm : BitVec 4) :
    field (mcrWord c opc1 l crn rd opc2 crm) 5 3 = opc2 := by
  apply BitVec.eq_of_getLsbD_eq
  intro i hi
  rw [field_getLsbD]
  interval_cases i <;> simp only [mcrWord, BitVec.getLsbD_append] <;> simp

@[simp] theorem field_4_1_mcrWord (c : BitVec 4) (opc1 : BitVec 3) (l : BitVec 1) (crn rd : BitVec 4) (opc2 : BitVec 3) (crm : BitVec 4) :
    field (mcrWord c opc1 l crn rd opc2 crm) 4 1 = 1 := by
  apply BitVec.eq_of_getLsbD_eq
  intro i hi
  rw [field_getLsbD]
  interval_cases i
  simp only [mcrWord, BitVec.getLsbD_append]
  simp

@[simp] theorem field_0_4_mcrWord (c : BitVec 4) (opc1 : BitVec 3) (l : BitVec 1) (crn rd : BitVec 4) (opc2 : BitVec 3) (crm : BitVec 4) :
    field (mcrWord c opc1 l crn rd opc2 crm) 0 4 = crm := by
  apply BitVec.eq_of_getLsbD_eq
  intro i hi
  rw [field_getLsbD]
  interval_cases i <;> simp only [mcrWord, BitVec.getLsbD_append] <;> simp

/-! ### mcrrWord -/

@[simp] theorem field_28_4_mcrrWord (c : BitVec 4) (l : BitVec 1) (rn rd opcode crm : BitVec 4) :
    field (mcrrWord c l rn rd opcode crm) 28 4 = c := by
  apply BitVec.eq_of_getLsbD_eq
  intro i hi
  rw [field_getLsbD]
  interval_cases i <;> simp only [mcrrWord, BitVec.getLsbD_append] <;> simp

@[simp] theorem field_24_4_mcrrWord (c : BitVec 4) (l : BitVec 1) (rn rd opcode crm : BitVec 4) :
    field (mcrrWord c l rn rd opcode crm) 24 4 = 0b1100 := by
  apply BitVec.eq_of_getLsbD_eq
  intro i hi
  rw [field_getLsbD]
  interval_cases i <;> simp only [mcrrWord, BitVec.getLsbD_append] <;> simp

@[simp] theorem field_25_3_mcrrWord (c : BitVec 4) (l : BitVec 1) (rn rd opcode crm : BitVec 4) :
    field (mcrrWord c l rn rd opcode crm) 25 3 = 0b110 := by
  apply BitVec.eq_of_getLsbD_eq
  intro i hi
  rw [field_getLsbD]
  interval_cases i <;> simp only [mcrrWord, BitVec.getLsbD_append] <;> simp

@[simp] theorem field_21_7_mcrrWord (c : BitVec 4) (l : BitVec 1) (rn rd opcode crm : BitVec 4) :
    field (mcrrWord c l rn rd opcode crm) 21 7 = 0b1100010 := by
  apply BitVec.eq_of_getLsbD_eq
  intro i hi
  rw [field_getLsbD]
  interval_cases i <;> simp only [mcrrWord, BitVec.getLsbD_append] <;> simp

@[simp] theorem field_20_1_mcrrWord (c : BitVec 4) (l : BitVec 1) (rn rd opcode crm : BitVec 4) :
    field (mcrrWord c l rn rd opcode crm) 20 1 = l := by
  apply BitVec.eq_of_getLsbD_eq
  intro i hi
  rw [field_getLsbD]
  interval_cases i
  simp only [mcrrWord, BitVec.getLsbD_append]
  simp

@[simp] theorem field_16_4_mcrrWord (c : BitVec 4) (l : BitVec 1) (rn rd opcode crm : BitVec 4) :
    field (mcrrWord c l rn rd opcode crm) 16 4 = rn := by
  apply BitVec.eq_of_getLsbD_eq
  intro i hi
  rw [field_getLsbD]
  interval_cases i <;> simp only [mcrrWord, BitVec.getLsbD_append] <;> simp

@[simp] theorem field_12_4_mcrrWord (c : BitVec 4) (l : BitVec 1) (rn rd opcode crm : BitVec 4) :
    field (mcrrWord c l rn rd opcode crm) 12 4 = rd := by
  apply BitVec.eq_of_getLsbD_eq
  intro i hi
  rw [field_getLsbD]
  interval_cases i <;> simp only [mcrrWord, BitVec.getLsbD_append] <;> simp

@[simp] theorem field_8_4_mcrrWord (c : BitVec 4) (l : BitVec 1) (rn rd opcode crm : BitVec 4) :
    field (mcrrWord c l rn rd opcode crm) 8 4 = 0b1111 := by
  apply BitVec.eq_of_getLsbD_eq
  intro i hi
  rw [field_getLsbD]
  interval_cases i <;> simp only [mcrrWord, BitVec.getLsbD_append] <;> simp

@[simp] theorem field_4_4_mcrrWord (c : BitVec 4) (l : BitVec 1) (rn rd opcode crm : BitVec 4) :
    field (mcrrWord c l rn rd opcode crm) 4 4 = opcode := by
  apply BitVec.eq_of_getLsbD_eq
  intro i hi
  rw [field_getLsbD]
  interval_cases i <;> simp only [mcrrWord, BitVec.getLsbD_append] <;> simp

@[simp] theorem field_0_4_mcrrWord (c : BitVec 4) (l : BitVec 1) (rn rd opcode crm : BitVec 4) :
    field (mcrrWord c l rn rd opcode crm) 0 4 = crm := by
  apply BitVec.eq_of_getLsbD_eq
  intro i hi
  rw [field_getLsbD]
  interval_cases i <;> simp only [mcrrWord, BitVec.getLsbD_append] <;> simp

/-! ### ldcWord -/

@[simp] theorem field_28_4_ldcWord (c : BitVec 4) (p u n w l : BitVec 1) (rn crd : BitVec 4) (offset : BitVec 8) :
    field (ldcWord c p u n w l rn crd offset) 28 4 = c := by
  apply BitVec.eq_of_getLsbD_eq
  intro i hi
  rw [field_getLsbD]
  interval_cases i <;> simp only [ldcWord, BitVec.getLsbD_append] <;> simp

@[simp] theorem field_25_3_ldcWord (c : BitVec 4) (p u n w l : BitVec 1) (rn crd : BitVec 4) (offset : BitVec 8) :
    field (ldcWord c p u n w l rn crd offset) 25 3 = 0b110 := by
  apply BitVec.eq_of_getLsbD_eq
  intro i hi
  rw [field_getLsbD]
  interval_cases i <;> simp only [ldcWord, BitVec.getLsbD_append] <;> simp

@[simp] theorem field_24_4_ldcWord (c : BitVec 4) (p u n w l : BitVec 1) (rn crd : BitVec 4) (offset : BitVec 8) :
    field (ldcWord c p u n w l rn crd offset) 24 4 = 0b110#3 ++ p := by
  apply BitVec.eq_of_getLsbD_eq
  intro i hi
  rw [field_getLsbD]
  interval_cases i <;> simp only [ldcWord, BitVec.getLsbD_append] <;> simp

@[simp] theorem field_24_1_ldcWord (c : BitVec 4) (p u n w l : BitVec 1) (rn crd : BitVec 4) (offset : BitVec 8) :
    field (ldcWord c p u n w l rn crd offset) 24 1 = p := by
  apply BitVec.eq_of_getLsbD_eq
  intro i hi
  rw [field_getLsbD]
  interval_cases i
  simp only [ldcWord, BitVec.getLsbD_append]
  simp

@[simp] theorem field_23_1_ldcWord (c : BitVec 4) (p u n w l : BitVec 1) (rn crd : BitVec 4) (offset : BitVec 8) :
    field (ldcWord c p u n w l rn crd offset) 23 1 = u := by
  apply BitVec.eq_of_getLsbD_eq
  intro i hi
  rw [field_getLsbD]
  interval_cases i
  simp only [ldcWord, BitVec.getLsbD_append]
  simp

@[simp] theorem field_22_1_ldcWord (c : BitVec 4) (p u n w l : BitVec 1) (rn crd : BitVec 4) (offset : BitVec 8) :
    field (ldcWord c p u n w l rn crd offset) 22 1 = n := by
  apply BitVec.eq_of_getLsbD_eq
  intro i hi
  rw [field_getLsbD]
  interval_cases i
  simp only [ldcWord, BitVec.getLsbD_append]
  simp

@[simp] theorem field_21_1_ldcWord (c : BitVec 4) (p u n w l : BitVec 1) (rn crd : BitVec 4) (offset : BitVec 8) :
    field (ldcWord c p u n w l rn crd offset) 21 1 = w := by
  apply BitVec.eq_of_getLsbD_eq
  intro i hi
  rw [field_getLsbD]
  interval_cases i
  simp only [ldcWord, BitVec.getLsbD_append]
  simp

@[simp] theorem field_21_7_ldcWord (c : BitVec 4) (p u n w l : BitVec 1) (rn crd : BitVec 4) (offset : BitVec 8) :
    field (ldcWord c p u n w l rn crd offset) 21 7 = 0b110#3 ++ p ++ u ++ n ++ w := by
  apply BitVec.eq_of_getLsbD_eq
  intro i hi
  rw [field_getLsbD]
  interval_cases i <;> simp only [ldcWord, BitVec.getLsbD_append] <;> simp

@[simp] theorem field_20_1_ldcWord (c : BitVec 4) (p u n w l : BitVec 1) (rn crd : BitVec 4) (offset : BitVec 8) :
    field (ldcWord c p u n w l rn crd offset) 20 1 = l := by
  apply BitVec.eq_of_getLsbD_eq
  intro i hi
  rw [field_getLsbD]
  interval_cases i
  simp only [ldcWord, BitVec.getLsbD_append]
  simp

@[simp] theorem field_16_4_ldcWord (c : BitVec 4) (p u n w l : BitVec 1) (rn crd : BitVec 4) (offset : BitVec 8) :
    field (ldcWord c p u n w l rn crd offset) 16 4 = rn := by
  apply BitVec.eq_of_getLsbD_eq
  intro i hi
  rw [field_getLsbD]
  interval_cases i <;> simp only [ldcWord, BitVec.getLsbD_append] <;> simp

@[simp] theorem field_12_4_ldcWord (c : BitVec 4) (p u n w l : BitVec 1) (rn crd : BitVec 4) (offset : BitVec 8) :
    field (ldcWord c p u n w l rn crd offset) 12 4 = crd := by
  apply BitVec.eq_of_getLsbD_eq
  intro i hi
  rw [field_getLsbD]
  interval_cases i <;> simp only [ldcWord, BitVec.getLsbD_append] <;> simp

@[simp] theorem field_8_4_ldcWord (c : BitVec 4) (p u n w l : BitVec 1) (rn crd : BitVec 4) (offset : BitVec 8) :
    field (ldcWord c p u n w l rn crd offset) 8 4 = 0b1111 := by
  apply BitVec.eq_of_getLsbD_eq
  intro i hi
  rw [field_getLsbD]
  interval_cases i <;> simp only [ldcWord, BitVec.getLsbD_append] <;> simp

@[simp] theorem field_0_8_ldcWord (c : BitVec 4) (p u n w l : BitVec 1) (rn crd : BitVec 4) (offset : BitVec 8) :
    field (ldcWord c p u n w l rn crd offset) 0 8 = offset := by
  apply BitVec.eq_of_getLsbD_eq
  intro i hi
  rw [field_getLsbD]
  interval_cases i <;> simp only [ldcWord, BitVec.getLsbD_append] <;> simp

end Sys2Proof
end

