-- ==== Sys2Proof/Laws/Decode.lean ====
section
/-! SUPPORT. What the decoder makes of a word of each of the four formats, and every word of a format from its fields. -/

namespace Sys2Proof

/-! ### Decoding a format -/

theorem decode_cdpWord (c opc1 crn crd : BitVec 4) (opc2 : BitVec 3) (crm : BitVec 4) :
    decode (cdpWord c opc1 crn crd opc2 crm) =
      .instr (match condOfBits c with
        | none => .cdp2 opc1 crn crd opc2 crm
        | some k => .cdp k opc1 crn crd opc2 crm) := by
  simp only [decode, inCoprocessorSpace, cpNumOf, decodeCp15, decodeCdp, condOf, field_28_4_cdpWord, field_24_4_cdpWord,
    field_8_4_cdpWord, field_20_4_cdpWord, field_16_4_cdpWord, field_12_4_cdpWord, field_5_3_cdpWord, field_4_1_cdpWord,
    field_0_4_cdpWord]
  rfl

theorem decode_mcrWord (c : BitVec 4) (opc1 : BitVec 3) (l : BitVec 1) (crn rd : BitVec 4) (opc2 : BitVec 3)
    (crm : BitVec 4) :
    decode (mcrWord c opc1 l crn rd opc2 crm) =
      .instr (match condOfBits c with
        | none => if l = 1 then .mrc2 opc1 crn rd opc2 crm else .mcr2 opc1 crn rd opc2 crm
        | some k => if l = 1 then refineMrc k opc1 crn rd opc2 crm else refineMcr k opc1 crn rd opc2 crm) := by
  simp only [decode, inCoprocessorSpace, cpNumOf, decodeCp15, decodeMcr, condOf, field_28_4_mcrWord, field_24_4_mcrWord,
    field_8_4_mcrWord, field_21_3_mcrWord, field_20_1_mcrWord, field_16_4_mcrWord, field_12_4_mcrWord,
    field_5_3_mcrWord, field_4_1_mcrWord, field_0_4_mcrWord]
  rfl

theorem decode_mcrrWord (c : BitVec 4) (l : BitVec 1) (rn rd opcode crm : BitVec 4) :
    decode (mcrrWord c l rn rd opcode crm) =
      .instr (match condOfBits c with
        | none => if l = 1 then .mrrc2 rn rd opcode crm else .mcrr2 rn rd opcode crm
        | some k => if l = 1 then .mrrc k rn rd opcode crm else .mcrr k rn rd opcode crm) := by
  simp only [decode, inCoprocessorSpace, cpNumOf, decodeCp15, decodeMcrr, condOf, field_28_4_mcrrWord,
    field_24_4_mcrrWord, field_25_3_mcrrWord, field_21_7_mcrrWord, field_8_4_mcrrWord, field_20_1_mcrrWord,
    field_16_4_mcrrWord, field_12_4_mcrrWord, field_4_4_mcrrWord, field_0_4_mcrrWord]
  rfl

theorem addressing_fields : ∀ p u n w : BitVec 1,
    (0b110#3 ++ p ≠ (0b1110 : BitVec 4)) ∧
    (0b110#3 ++ p ++ u ++ n ++ w = (0b1100010 : BitVec 7) ↔ p = 0 ∧ u = 0 ∧ n = 1 ∧ w = 0) ∧
    (0b110#3 ++ p ++ u ++ n ++ w = (0b1100000 : BitVec 7) ↔ p = 0 ∧ u = 0 ∧ n = 0 ∧ w = 0) := by
  decide

theorem decode_ldcWord_cp15 (c : BitVec 4) (p u n w l : BitVec 1) (rn crd : BitVec 4) (offset : BitVec 8) :
    decode (ldcWord c p u n w l rn crd offset) = .instr (decodeCp15 (ldcWord c p u n w l rn crd offset)) := by
  simp [decode, inCoprocessorSpace, cpNumOf]

/-- The corner P = U = N = W = 0 (R102, R103). -/
theorem decode_ldcWord_corner (c : BitVec 4) (l : BitVec 1) (rn crd : BitVec 4) (offset : BitVec 8) :
    decode (ldcWord c 0 0 0 0 l rn crd offset) = .instr (.ldcStcCorner (condOfBits c) l rn crd offset) := by
  rw [decode_ldcWord_cp15]
  simp only [decodeCp15, condOf, field_28_4_ldcWord, field_24_4_ldcWord, field_21_7_ldcWord, field_20_1_ldcWord,
    field_16_4_ldcWord, field_12_4_ldcWord, field_0_8_ldcWord]
  rfl

/-- Every other LDC or STC (R102, R103). -/
theorem decode_ldcWord (c : BitVec 4) (p u n w l : BitVec 1) (rn crd : BitVec 4) (offset : BitVec 8)
    (h : noAddressing p u w = false) :
    decode (ldcWord c p u n w l rn crd offset) =
      .instr (match condOfBits c with
        | none => if l = 1 then .ldc2 p u n w rn crd offset else .stc2 p u n w rn crd offset
        | some k => if l = 1 then .ldc k p u n w rn crd offset else .stc k p u n w rn crd offset) := by
  obtain ⟨h4, h7, h7'⟩ := addressing_fields p u n w
  have hpuw : ¬ (p = 0 ∧ u = 0 ∧ w = 0) := by
    rintro ⟨rfl, rfl, rfl⟩
    exact absurd h (by decide)
  have h1 : ¬ (p = 0 ∧ u = 0 ∧ n = 1 ∧ w = 0) := fun k => hpuw ⟨k.1, k.2.1, k.2.2.2⟩
  have h2 : ¬ (p = 0 ∧ u = 0 ∧ n = 0 ∧ w = 0) := fun k => hpuw ⟨k.1, k.2.1, k.2.2.2⟩
  rw [decode_ldcWord_cp15]
  simp only [decodeCp15, decodeLdcStc, condOf, field_28_4_ldcWord, field_24_4_ldcWord, field_21_7_ldcWord,
    field_24_1_ldcWord, field_23_1_ldcWord, field_22_1_ldcWord, field_21_1_ldcWord, field_20_1_ldcWord,
    field_16_4_ldcWord, field_12_4_ldcWord, field_0_8_ldcWord, h4, h7, h7', h1, h2, if_false] <;> rfl

/-! ### A word from its fields -/

/-- A bit of a field that two words share. -/
theorem getLsbD_of_field {v w : Word} {i : Nat} (lo len : Nat) (h : field v lo len = field w lo len) (h1 : lo ≤ i)
    (h2 : i < lo + len) : v.getLsbD i = w.getLsbD i := by
  have := congrArg (fun x : BitVec len => x.getLsbD (i - lo)) h
  simpa only [field_getLsbD, show i - lo < len by omega, show lo + (i - lo) = i by omega, decide_true,
    Bool.true_and] using this

/-- Two words with the same fields are one word. -/
theorem word_ext_fields {v w : Word} (h28 : field v 28 4 = field w 28 4) (h20 : field v 20 8 = field w 20 8)
    (h12 : field v 12 8 = field w 12 8) (h0 : field v 0 12 = field w 0 12) : v = w := by
  apply BitVec.eq_of_getLsbD_eq
  intro i hi
  by_cases a : i < 12
  · exact getLsbD_of_field 0 12 h0 (by omega) (by omega)
  · by_cases b : i < 20
    · exact getLsbD_of_field 12 8 h12 (by omega) (by omega)
    · by_cases d : i < 28
      · exact getLsbD_of_field 20 8 h20 (by omega) (by omega)
      · exact getLsbD_of_field 28 4 h28 (by omega) (by omega)

end Sys2Proof
end

