-- ==== Sys2Proof/Laws/Exceptions.lean ====
section
/-! SUPPORT. Taking an exception: the fields of the status it leaves, and the alignment of the addresses it goes to. -/

namespace Sys2Proof.Machine

open Sys2Proof

/-! ### Addresses -/

/-- Below the top of the address space the next address is the sum (R41). -/
theorem addressAfter_of_lt {a : Word} {k : Nat} (h : a.toNat + k < 2 ^ 32) (n : Nat) :
    addressAfter a k n = a + BitVec.ofNat 32 k := by
  exact if_pos h

/-- A word with its two low bits cleared is word-aligned. -/
theorem cleared_aligned (w : Word) : (w &&& ~~~3#32).toNat % 4 = 0 := by
  have h : (w &&& ~~~3#32).toNat % 2 ^ 2 = 0 := by
    rw [← BitVec.toNat_setWidth]
    have : (w &&& ~~~3#32).setWidth 2 = 0#2 := by
      apply BitVec.eq_of_getLsbD_eq
      intro i hi
      have : i = 0 ∨ i = 1 := by omega
      rcases this with rfl | rfl <;> simp
    rw [this]
    rfl
  simpa using h

/-- Every address the pc moves to is word-aligned. -/
theorem addressAfter_aligned {a : Word} {k : Nat} (ha : a.toNat % 4 = 0) (hk : k % 4 = 0) (n : Nat) :
    (addressAfter a k n).toNat % 4 = 0 := by
  unfold addressAfter
  split
  · simp only [BitVec.toNat_add, BitVec.toNat_ofNat]
    omega
  · exact cleared_aligned _

/-- A place in the vector range is word-aligned (R262). -/
theorem vectorRange_add_aligned (high : Bool) (v : BitVec 3) : (vectorRange high + vectorOffset v).toNat % 4 = 0 := by
  revert high v
  decide

/-- Every vector is word-aligned (R197, R206, R262). -/
theorem State.vector_aligned (s : State) (e : Exc) : (s.vector e).toNat % 4 = 0 := by
  have hi : ∀ i : Interrupt, (s.interruptVector i).toNat % 4 = 0 := by
    intro i
    unfold State.interruptVector
    split
    · exact cleared_aligned _
    · cases i <;> simp only [State.vectorBase] <;> cases s.crEff.getLsbD 13 <;> decide
  cases e <;> first | exact hi _ | exact vectorRange_add_aligned _ _

/-! ### The status on entry (R268, R269) -/

/-- Bit by bit. -/
theorem entryStatus_getLsbD (e : EntryStatus) (ee : Bool) (c : Word) (i : Nat) :
    (entryStatus e ee c).getLsbD i =
      if i < 5 then e.mode.bits.getLsbD i
      else if i = 5 then false
      else if i = 6 then e.masksFiq || c.getLsbD 6
      else if i = 7 then e.masksIrq || c.getLsbD 7
      else if i = 8 then e.masksAborts || c.getLsbD 8
      else if i = 9 then ee
      else c.getLsbD i := by
  simp only [entryStatus, BitVec.getLsbD_append]
  by_cases h5 : i < 5
  · simp [h5]
  by_cases h : i = 5 ∨ i = 6 ∨ i = 7 ∨ i = 8 ∨ i = 9
  · rcases h with rfl | rfl | rfl | rfl | rfl <;> simp
  have h10 : 10 ≤ i := by omega
  have h1 : ¬ i - 5 < 1 := by omega
  have h2 : ¬ i - 5 - 1 < 1 := by omega
  have h3 : ¬ i - 5 - 1 - 1 < 1 := by omega
  have h4 : ¬ i - 5 - 1 - 1 - 1 < 1 := by omega
  have h5' : ¬ i - 5 - 1 - 1 - 1 - 1 < 1 := by omega
  have hs : 10 + (i - 5 - 1 - 1 - 1 - 1 - 1) = i := by omega
  simp only [h5, h1, h2, h3, h4, h5', if_false, BitVec.getLsbD_extractLsb', hs, show i ≠ 5 by omega,
    show i ≠ 6 by omega, show i ≠ 7 by omega, show i ≠ 8 by omega, show i ≠ 9 by omega]
  by_cases h32 : i < 32
  · simp [show i - 5 - 1 - 1 - 1 - 1 - 1 < 22 by omega]
  · simp [show ¬ i - 5 - 1 - 1 - 1 - 1 - 1 < 22 by omega, BitVec.getLsbD_of_ge c i (by omega)]

/-- The mode on entry. -/
theorem entryStatus_mode (e : EntryStatus) (ee : Bool) (c : Word) :
    (entryStatus e ee c).extractLsb' 0 5 = e.mode.bits := by
  apply BitVec.eq_of_getLsbD_eq
  intro i hi
  simp [entryStatus_getLsbD, hi]

/-- The flags and the unnamed bits on entry. -/
theorem entryStatus_rest (e : EntryStatus) (ee : Bool) (c : Word) :
    (entryStatus e ee c).extractLsb' 10 22 = c.extractLsb' 10 22 := by
  apply BitVec.eq_of_getLsbD_eq
  intro i hi
  simp [BitVec.getLsbD_extractLsb', entryStatus_getLsbD, show ¬ 10 + i < 5 by omega, show 10 + i ≠ 5 by omega,
    show 10 + i ≠ 6 by omega, show 10 + i ≠ 7 by omega, show 10 + i ≠ 8 by omega, show 10 + i ≠ 9 by omega]

/-- The mode of a machine that has taken an exception. -/
@[simp] theorem State.modeBits_takeException (s : State) (e : Exc) :
    (s.takeException e).modeBits = (s.entry e).mode.bits :=
  entryStatus_mode _ _ _

/-- Every exception is taken to ARM state. -/
@[simp] theorem State.thumb_takeException (s : State) (e : Exc) : (s.takeException e).thumb = false :=
  entryStatus_getLsbD _ _ _ 5

/-- Every exception is taken to a legal mode. -/
theorem ExcMode.bits_legal (m : ExcMode) : legalMode m.bits = true := by
  cases m <;> decide

/-- Every exception is taken to a privileged mode. -/
theorem ExcMode.bits_ne_userMode (m : ExcMode) : m.bits ≠ userMode := by
  cases m <;> decide

/-- The saved status of the mode an exception enters is where the entry put it. -/
@[simp] theorem spsrSlot_bits (m : ExcMode) : spsrSlot m.bits = some m.spsrIndex := by
  cases m <;> rfl

end Sys2Proof.Machine
end

