-- ==== Sys2Proof/Laws/Memory.lean ====
section
/-! SUPPORT. Memory: reading after writing, and the canonical form kept by every memory operation. -/

namespace Sys2Proof.Machine

open Sys2Proof

/-- Reading after a write: the byte written, and every other byte as before. -/
@[simp] theorem Memory.readByte_writeByte (m : Memory) (k j : Nat) (v : Byte) :
    (m.writeByte k v).readByte j = if j = k then some v else m.readByte j := by
  induction m with
  | nil => simp [Memory.writeByte, Memory.readByte, eq_comm]
  | cons p m ih =>
    obtain ⟨a, b⟩ := p
    by_cases h1 : k < a
    · simp [Memory.writeByte, h1, Memory.readByte, eq_comm]
    · by_cases h2 : k = a
      · subst h2
        by_cases hj : j = k
        · subst hj
          simp [Memory.writeByte, Memory.readByte]
        · have hj' : k ≠ j := fun h => hj h.symm
          simp [Memory.writeByte, Memory.readByte, hj, hj']
      · simp only [Memory.writeByte, h1, h2, if_false, Memory.readByte, ih]
        by_cases hj : j = k
        · subst hj
          simp [Ne.symm h2]
        · simp [hj]

theorem Memory.risesFrom_mono {lo lo' : Nat} (h : lo ≤ lo') (m : Memory) (hm : Memory.risesFrom lo' m = true) :
    Memory.risesFrom lo m = true := by
  cases m with
  | nil => rfl
  | cons p m =>
    obtain ⟨a, b⟩ := p
    simp only [Memory.risesFrom, Bool.and_eq_true, decide_eq_true_eq] at hm ⊢
    exact ⟨⟨by omega, hm.1.2⟩, hm.2⟩

theorem Memory.risesFrom_writeByte (m : Memory) (k : Nat) (v : Byte) (hk : k < 2 ^ 32) :
    ∀ lo, lo ≤ k → Memory.risesFrom lo m = true → Memory.risesFrom lo (m.writeByte k v) = true := by
  induction m with
  | nil =>
    intro lo hlo _
    simp [Memory.writeByte, Memory.risesFrom, hlo]
    omega
  | cons p m ih =>
    obtain ⟨a, b⟩ := p
    intro lo hlo hm
    simp only [Memory.risesFrom, Bool.and_eq_true, decide_eq_true_eq] at hm
    obtain ⟨⟨h1, h2⟩, h3⟩ := hm
    simp only [Memory.writeByte]
    split
    · simp only [Memory.risesFrom, Bool.and_eq_true, decide_eq_true_eq]
      exact ⟨⟨hlo, hk⟩, ⟨by omega, h2⟩, h3⟩
    · split
      · next _ h =>
        subst h
        simp only [Memory.risesFrom, Bool.and_eq_true, decide_eq_true_eq]
        exact ⟨⟨hlo, hk⟩, h3⟩
      · simp only [Memory.risesFrom, Bool.and_eq_true, decide_eq_true_eq]
        exact ⟨⟨h1, h2⟩, ih (a + 1) (by omega) h3⟩

/-- A byte stored at a 32-bit address keeps the canonical form. -/
theorem Memory.wf_writeByte {m : Memory} (hm : m.wf = true) {k : Nat} (hk : k < 2 ^ 32) (v : Byte) :
    (m.writeByte k v).wf = true :=
  Memory.risesFrom_writeByte m k v hk 0 (Nat.zero_le k) hm

/-- A word stored below the top of the address space keeps the canonical form. -/
theorem Memory.wf_writeWord {m : Memory} (hm : m.wf = true) {k : Nat} (hk : k + 3 < 2 ^ 32) (w : Word) :
    (m.writeWord k w).wf = true :=
  Memory.wf_writeByte (Memory.wf_writeByte (Memory.wf_writeByte (Memory.wf_writeByte hm (by omega) _) (by omega) _)
    (by omega) _) (by omega) _

/-- The four bytes of a word make the word. -/
theorem wordOfBytes_fields (w : Word) : wordOfBytes (field w 0 8) (field w 8 8) (field w 16 8) (field w 24 8) = w := by
  apply BitVec.eq_of_getLsbD_eq
  intro i hi
  simp only [wordOfBytes, field, BitVec.getLsbD_append, BitVec.getLsbD_extractLsb']
  by_cases h0 : i < 8
  · simp [h0]
  · by_cases h1 : i - 8 < 8
    · have : 8 + (i - 8) = i := by omega
      simp [h0, h1, this]
    · by_cases h2 : i - 8 - 8 < 8
      · have : 16 + (i - 8 - 8) = i := by omega
        simp [h0, h1, h2, this]
      · have h3 : i - 8 - 8 - 8 < 8 := by omega
        have : 24 + (i - 8 - 8 - 8) = i := by omega
        simp [h0, h1, h2, h3, this]

/-- A word reads back as stored. -/
@[simp] theorem Memory.readWord_writeWord (m : Memory) (k : Nat) (w : Word) : (m.writeWord k w).readWord k = some w := by
  simp [Memory.readWord, Memory.writeWord, wordOfBytes_fields]

/-- Storing a word leaves every byte outside it as it was. -/
theorem Memory.readByte_writeWord_other (m : Memory) (k j : Nat) (w : Word) (h : j < k ∨ k + 3 < j) :
    (m.writeWord k w).readByte j = m.readByte j := by
  have h0 : j ≠ k := by omega
  have h1 : j ≠ k + 1 := by omega
  have h2 : j ≠ k + 2 := by omega
  have h3 : j ≠ k + 3 := by omega
  simp [Memory.writeWord, h0, h1, h2, h3]

end Sys2Proof.Machine
end

