-- ==== Sys2Proof/Laws/Params.lean ====
section
/-! SUPPORT. The bits of the masks of R28 and R31, and what masking does to an access-rights field. -/

namespace Sys2Proof

theorem wordBelow_getLsbD (f : Nat → Bool) (i : Nat) :
    ∀ n, n ≤ 32 → (wordBelow f n).getLsbD i = (decide (i < n) && f i)
  | 0, _ => by simp [wordBelow]
  | n + 1, hn => by
    have ih := wordBelow_getLsbD f i n (by omega)
    have hbit : (BitVec.twoPow 32 n).getLsbD i = decide (i = n) := by
      by_cases h : i = n
      · subst h
        simp [BitVec.getLsbD_twoPow]
        omega
      · simp [BitVec.getLsbD_twoPow, h]
        omega
    rw [wordBelow, BitVec.getLsbD_or, ih]
    rcases Nat.lt_trichotomy i n with h | h | h
    · have h1 : i ≠ n := by omega
      have h2 : i < n + 1 := by omega
      cases hf : f n <;> simp [h, h1, h2, hbit]
    · subst h
      cases hf : f i <;> simp [hbit]
    · have h1 : ¬ i < n := by omega
      have h2 : i ≠ n := by omega
      have h3 : ¬ i < n + 1 := by omega
      cases hf : f n <;> simp [h1, h2, h3, hbit]

@[simp] theorem wordOf_getLsbD (f : Nat → Bool) (i : Nat) : (wordOf f).getLsbD i = (decide (i < 32) && f i) :=
  wordBelow_getLsbD f i 32 (Nat.le_refl 32)

@[simp] theorem Cfg.kindMask_getLsbD (c : Cfg) (k : CrKind) (i : Nat) :
    (c.kindMask k).getLsbD i = (decide (i < 32) && c.crKindAt i == k) :=
  wordOf_getLsbD _ i

@[simp] theorem Cfg.rwMask_getLsbD (c : Cfg) (i : Nat) :
    c.rwMask.getLsbD i = (decide (i < 32) && c.crKindAt i == .rw) :=
  c.kindMask_getLsbD .rw i

@[simp] theorem Cfg.onesMask_getLsbD (c : Cfg) (i : Nat) :
    c.onesMask.getLsbD i = (decide (i < 32) && c.crKindAt i == .fixed1) :=
  c.kindMask_getLsbD .fixed1 i

@[simp] theorem Cfg.unpMask_getLsbD (c : Cfg) (i : Nat) :
    c.unpMask.getLsbD i = (decide (i < 32) && c.crKindAt i == .unp) :=
  c.kindMask_getLsbD .unp i

@[simp] theorem Cfg.implMask_getLsbD (c : Cfg) (i : Nat) :
    c.implMask.getLsbD i = (decide (i < 32) && c.cpImplAt (i / 2)) :=
  wordOf_getLsbD _ i

/-- No bit has two kinds. -/
theorem Cfg.kindMask_disjoint (c : Cfg) {k l : CrKind} (h : k ≠ l) : c.kindMask k &&& c.kindMask l = 0 := by
  apply BitVec.eq_of_getLsbD_eq
  intro i hi
  simp only [BitVec.getLsbD_and, Cfg.kindMask_getLsbD, hi, decide_true, Bool.true_and]
  by_cases hk : c.crKindAt i = k
  · have : c.crKindAt i ≠ l := fun hl => h (hk.symm.trans hl)
    simp [beq_eq_false_iff_ne.mpr this]
  · simp [beq_eq_false_iff_ne.mpr hk]

/-- Masking twice masks once. -/
theorem and_mask_idem (v m : Word) : v &&& m &&& m = v &&& m := by
  rw [BitVec.and_assoc, BitVec.and_self]

/-- A masked value has nothing outside the mask. -/
theorem masked_outside (v m : Word) : v &&& m &&& ~~~m = 0 := by
  apply BitVec.eq_of_getLsbD_eq
  intro i hi
  simp only [BitVec.getLsbD_and, BitVec.getLsbD_not, hi, decide_true, Bool.true_and]
  cases v.getLsbD i <;> cases m.getLsbD i <;> simp

/-- A value with nothing outside the mask is its own masked value. -/
theorem masked_of_outside {v m : Word} (h : v &&& ~~~m = 0) : v &&& m = v := by
  apply BitVec.eq_of_getLsbD_eq
  intro i hi
  have := congrArg (fun w : Word => w.getLsbD i) h
  simp only [BitVec.getLsbD_and, BitVec.getLsbD_not, hi, decide_true, Bool.true_and] at this ⊢
  revert this
  cases v.getLsbD i <;> cases m.getLsbD i <;> simp

/-- The access rights of a masked value (R31): as written for an implemented coprocessor, 0b00 for another. -/
theorem accessRights_and_implMask (c : Cfg) (v : Word) {n : Nat} (hn : n < 14) :
    accessRights (v &&& c.implMask) n = if c.cpImplAt n then accessRights v n else 0 := by
  apply BitVec.eq_of_getLsbD_eq
  intro i hi
  have h1 : (2 * n + i) / 2 = n := by omega
  have h2 : 2 * n + i < 32 := by omega
  cases hc : c.cpImplAt n <;>
    simp only [accessRights, BitVec.getLsbD_extractLsb', BitVec.getLsbD_and, Cfg.implMask_getLsbD, h1, h2, hc, hi,
      decide_true, Bool.true_and, Bool.and_false, Bool.and_true, Bool.false_eq_true, if_true, if_false,
      BitVec.ofNat_eq_ofNat, BitVec.getLsbD_zero]

theorem Machine.hasReservedRights_eq_false (w : Word) :
    Machine.hasReservedRights w = false ↔ ∀ n < 14, accessRights w n ≠ 0b10 := by
  simp [Machine.hasReservedRights]

end Sys2Proof
end

