-- ==== Sys2Proof/Laws/PerInstr.lean ====
section
/-! SUPPORT. Statements for every instruction. `TableRow`: the word of an instruction is one of its row's words in
spec/opcode_table.json, `word & mask = match` (R103, R111). -/

namespace Sys2Proof.Laws

open Sys2Proof

/-! ### Masked words of the four formats -/

theorem field_and (v w : Word) (lo len : Nat) : field (v &&& w) lo len = field v lo len &&& field w lo len := by
  apply BitVec.eq_of_getLsbD_eq
  intro i hi
  simp only [field_getLsbD, BitVec.getLsbD_and, hi, decide_true, Bool.true_and]

theorem cdpWord_row (c opc1 crn crd : BitVec 4) (opc2 : BitVec 3) (crm : BitVec 4) (mask v : Word)
    (h28 : c &&& field mask 28 4 = field v 28 4)
    (h24 : (0b1110 : BitVec 4) &&& field mask 24 4 = field v 24 4)
    (h20 : opc1 &&& field mask 20 4 = field v 20 4)
    (h16 : crn &&& field mask 16 4 = field v 16 4)
    (h12 : crd &&& field mask 12 4 = field v 12 4)
    (h8 : (0b1111 : BitVec 4) &&& field mask 8 4 = field v 8 4)
    (h5 : opc2 &&& field mask 5 3 = field v 5 3)
    (h4 : (0 : BitVec 1) &&& field mask 4 1 = field v 4 1)
    (h0 : crm &&& field mask 0 4 = field v 0 4) :
    cdpWord c opc1 crn crd opc2 crm &&& mask = v := by
  apply BitVec.eq_of_getLsbD_eq
  intro i hi
  by_cases a0 : i < 4
  · exact getLsbD_of_field 0 4 (by rw [field_and, field_0_4_cdpWord, h0]) (by omega) (by omega)
  by_cases a4 : i < 5
  · exact getLsbD_of_field 4 1 (by rw [field_and, field_4_1_cdpWord, h4]) (by omega) (by omega)
  by_cases a5 : i < 8
  · exact getLsbD_of_field 5 3 (by rw [field_and, field_5_3_cdpWord, h5]) (by omega) (by omega)
  by_cases a8 : i < 12
  · exact getLsbD_of_field 8 4 (by rw [field_and, field_8_4_cdpWord, h8]) (by omega) (by omega)
  by_cases a12 : i < 16
  · exact getLsbD_of_field 12 4 (by rw [field_and, field_12_4_cdpWord, h12]) (by omega) (by omega)
  by_cases a16 : i < 20
  · exact getLsbD_of_field 16 4 (by rw [field_and, field_16_4_cdpWord, h16]) (by omega) (by omega)
  by_cases a20 : i < 24
  · exact getLsbD_of_field 20 4 (by rw [field_and, field_20_4_cdpWord, h20]) (by omega) (by omega)
  by_cases a24 : i < 28
  · exact getLsbD_of_field 24 4 (by rw [field_and, field_24_4_cdpWord, h24]) (by omega) (by omega)
  exact getLsbD_of_field 28 4 (by rw [field_and, field_28_4_cdpWord, h28]) (by omega) (by omega)

theorem mcrWord_row (c : BitVec 4) (opc1 : BitVec 3) (l : BitVec 1) (crn rd : BitVec 4) (opc2 : BitVec 3) (crm : BitVec 4) (mask v : Word)
    (h28 : c &&& field mask 28 4 = field v 28 4)
    (h24 : (0b1110 : BitVec 4) &&& field mask 24 4 = field v 24 4)
    (h21 : opc1 &&& field mask 21 3 = field v 21 3)
    (h20 : l &&& field mask 20 1 = field v 20 1)
    (h16 : crn &&& field mask 16 4 = field v 16 4)
    (h12 : rd &&& field mask 12 4 = field v 12 4)
    (h8 : (0b1111 : BitVec 4) &&& field mask 8 4 = field v 8 4)
    (h5 : opc2 &&& field mask 5 3 = field v 5 3)
    (h4 : (1 : BitVec 1) &&& field mask 4 1 = field v 4 1)
    (h0 : crm &&& field mask 0 4 = field v 0 4) :
    mcrWord c opc1 l crn rd opc2 crm &&& mask = v := by
  apply BitVec.eq_of_getLsbD_eq
  intro i hi
  by_cases a0 : i < 4
  · exact getLsbD_of_field 0 4 (by rw [field_and, field_0_4_mcrWord, h0]) (by omega) (by omega)
  by_cases a4 : i < 5
  · exact getLsbD_of_field 4 1 (by rw [field_and, field_4_1_mcrWord, h4]) (by omega) (by omega)
  by_cases a5 : i < 8
  · exact getLsbD_of_field 5 3 (by rw [field_and, field_5_3_mcrWord, h5]) (by omega) (by omega)
  by_cases a8 : i < 12
  · exact getLsbD_of_field 8 4 (by rw [field_and, field_8_4_mcrWord, h8]) (by omega) (by omega)
  by_cases a12 : i < 16
  · exact getLsbD_of_field 12 4 (by rw [field_and, field_12_4_mcrWord, h12]) (by omega) (by omega)
  by_cases a16 : i < 20
  · exact getLsbD_of_field 16 4 (by rw [field_and, field_16_4_mcrWord, h16]) (by omega) (by omega)
  by_cases a20 : i < 21
  · exact getLsbD_of_field 20 1 (by rw [field_and, field_20_1_mcrWord, h20]) (by omega) (by omega)
  by_cases a21 : i < 24
  · exact getLsbD_of_field 21 3 (by rw [field_and, field_21_3_mcrWord, h21]) (by omega) (by omega)
  by_cases a24 : i < 28
  · exact getLsbD_of_field 24 4 (by rw [field_and, field_24_4_mcrWord, h24]) (by omega) (by omega)
  exact getLsbD_of_field 28 4 (by rw [field_and, field_28_4_mcrWord, h28]) (by omega) (by omega)

theorem mcrrWord_row (c : BitVec 4) (l : BitVec 1) (rn rd opcode crm : BitVec 4) (mask v : Word)
    (h28 : c &&& field mask 28 4 = field v 28 4)
    (h21 : (0b1100010 : BitVec 7) &&& field mask 21 7 = field v 21 7)
    (h20 : l &&& field mask 20 1 = field v 20 1)
    (h16 : rn &&& field mask 16 4 = field v 16 4)
    (h12 : rd &&& field mask 12 4 = field v 12 4)
    (h8 : (0b1111 : BitVec 4) &&& field mask 8 4 = field v 8 4)
    (h4 : opcode &&& field mask 4 4 = field v 4 4)
    (h0 : crm &&& field mask 0 4 = field v 0 4) :
    mcrrWord c l rn rd opcode crm &&& mask = v := by
  apply BitVec.eq_of_getLsbD_eq
  intro i hi
  by_cases a0 : i < 4
  · exact getLsbD_of_field 0 4 (by rw [field_and, field_0_4_mcrrWord, h0]) (by omega) (by omega)
  by_cases a4 : i < 8
  · exact getLsbD_of_field 4 4 (by rw [field_and, field_4_4_mcrrWord, h4]) (by omega) (by omega)
  by_cases a8 : i < 12
  · exact getLsbD_of_field 8 4 (by rw [field_and, field_8_4_mcrrWord, h8]) (by omega) (by omega)
  by_cases a12 : i < 16
  · exact getLsbD_of_field 12 4 (by rw [field_and, field_12_4_mcrrWord, h12]) (by omega) (by omega)
  by_cases a16 : i < 20
  · exact getLsbD_of_field 16 4 (by rw [field_and, field_16_4_mcrrWord, h16]) (by omega) (by omega)
  by_cases a20 : i < 21
  · exact getLsbD_of_field 20 1 (by rw [field_and, field_20_1_mcrrWord, h20]) (by omega) (by omega)
  by_cases a21 : i < 28
  · exact getLsbD_of_field 21 7 (by rw [field_and, field_21_7_mcrrWord, h21]) (by omega) (by omega)
  exact getLsbD_of_field 28 4 (by rw [field_and, field_28_4_mcrrWord, h28]) (by omega) (by omega)

theorem ldcWord_row (c : BitVec 4) (p u n w l : BitVec 1) (rn crd : BitVec 4) (offset : BitVec 8) (mask v : Word)
    (h28 : c &&& field mask 28 4 = field v 28 4)
    (h25 : (0b110 : BitVec 3) &&& field mask 25 3 = field v 25 3)
    (h24 : p &&& field mask 24 1 = field v 24 1)
    (h23 : u &&& field mask 23 1 = field v 23 1)
    (h22 : n &&& field mask 22 1 = field v 22 1)
    (h21 : w &&& field mask 21 1 = field v 21 1)
    (h20 : l &&& field mask 20 1 = field v 20 1)
    (h16 : rn &&& field mask 16 4 = field v 16 4)
    (h12 : crd &&& field mask 12 4 = field v 12 4)
    (h8 : (0b1111 : BitVec 4) &&& field mask 8 4 = field v 8 4)
    (h0 : offset &&& field mask 0 8 = field v 0 8) :
    ldcWord c p u n w l rn crd offset &&& mask = v := by
  apply BitVec.eq_of_getLsbD_eq
  intro i hi
  by_cases a0 : i < 8
  · exact getLsbD_of_field 0 8 (by rw [field_and, field_0_8_ldcWord, h0]) (by omega) (by omega)
  by_cases a8 : i < 12
  · exact getLsbD_of_field 8 4 (by rw [field_and, field_8_4_ldcWord, h8]) (by omega) (by omega)
  by_cases a12 : i < 16
  · exact getLsbD_of_field 12 4 (by rw [field_and, field_12_4_ldcWord, h12]) (by omega) (by omega)
  by_cases a16 : i < 20
  · exact getLsbD_of_field 16 4 (by rw [field_and, field_16_4_ldcWord, h16]) (by omega) (by omega)
  by_cases a20 : i < 21
  · exact getLsbD_of_field 20 1 (by rw [field_and, field_20_1_ldcWord, h20]) (by omega) (by omega)
  by_cases a21 : i < 22
  · exact getLsbD_of_field 21 1 (by rw [field_and, field_21_1_ldcWord, h21]) (by omega) (by omega)
  by_cases a22 : i < 23
  · exact getLsbD_of_field 22 1 (by rw [field_and, field_22_1_ldcWord, h22]) (by omega) (by omega)
  by_cases a23 : i < 24
  · exact getLsbD_of_field 23 1 (by rw [field_and, field_23_1_ldcWord, h23]) (by omega) (by omega)
  by_cases a24 : i < 25
  · exact getLsbD_of_field 24 1 (by rw [field_and, field_24_1_ldcWord, h24]) (by omega) (by omega)
  by_cases a25 : i < 28
  · exact getLsbD_of_field 25 3 (by rw [field_and, field_25_3_ldcWord, h25]) (by omega) (by omega)
  exact getLsbD_of_field 28 4 (by rw [field_and, field_28_4_ldcWord, h28]) (by omega) (by omega)

/-! ### The rows -/

/-- The mask of the row of an instruction. -/
def TableRow.mask : Instr → Word
  | .cdp2 .. => 0xFF000F10
  | .cdp .. => 0x0F000F10
  | .mrc2 .. => 0xFF100F10
  | .mcr2 .. => 0xFF100F10
  | .mrc .. => 0x0F100F10
  | .mcr .. => 0x0F100F10
  | .mrrc2 .. => 0xFFF00F00
  | .mcrr2 .. => 0xFFF00F00
  | .mrrc .. => 0x0FF00F00
  | .mcrr .. => 0x0FF00F00
  | .ldcStcCorner .. => 0x0FE00F00
  | .ldc2 .. => 0xFE100F00
  | .ldc .. => 0x0E100F00
  | .stc2 .. => 0xFE100F00
  | .stc .. => 0x0E100F00
  | .mrcMidr .. => 0x0FFF0FFF
  | .mrcCtr .. => 0x0FFF0FFF
  | .mrcTcmtr .. => 0x0FFF0FFF
  | .mrcTlbtr .. => 0x0FFF0FFF
  | .mrcMpuir .. => 0x0FFF0FFF
  | .mrcId5 .. => 0x0FFF0FFF
  | .mrcId6 .. => 0x0FFF0FFF
  | .mrcId7 .. => 0x0FFF0FFF
  | .mrcCr .. => 0x0FFF0FFF
  | .mcrCr .. => 0x0FFF0FFF
  | .mrcAcr .. => 0x0FFF0FFF
  | .mcrAcr .. => 0x0FFF0FFF
  | .mrcCpacr .. => 0x0FFF0FFF
  | .mcrCpacr .. => 0x0FFF0FFF
  | .mrcC2 .. => 0x0F1F0F10
  | .mcrC2 .. => 0x0F1F0F10
  | .mrcC3 .. => 0x0F1F0F10
  | .mcrC3 .. => 0x0F1F0F10
  | .mrcC4 .. => 0x0F1F0F10
  | .mcrC4 .. => 0x0F1F0F10
  | .mrcC5 .. => 0x0F1F0F10
  | .mcrC5 .. => 0x0F1F0F10
  | .mrcC6 .. => 0x0F1F0F10
  | .mcrC6 .. => 0x0F1F0F10
  | .mrcC7 .. => 0x0F1F0F10
  | .mcrC7 .. => 0x0F1F0F10
  | .mrcC8 .. => 0x0F1F0F10
  | .mcrC8 .. => 0x0F1F0F10
  | .mrcC9 .. => 0x0F1F0F10
  | .mcrC9 .. => 0x0F1F0F10
  | .mrcC10 .. => 0x0F1F0F10
  | .mcrC10 .. => 0x0F1F0F10
  | .mrcC11 .. => 0x0F1F0F10
  | .mcrC11 .. => 0x0F1F0F10
  | .mrcC12 .. => 0x0F1F0F10
  | .mcrC12 .. => 0x0F1F0F10
  | .mrcC13 .. => 0x0F1F0F10
  | .mcrC13 .. => 0x0F1F0F10
  | .mrcC14 .. => 0x0F1F0F10
  | .mcrC14 .. => 0x0F1F0F10
  | .mrcC15 .. => 0x0F1F0F10
  | .mcrC15 .. => 0x0F1F0F10
  | .prefetchFlush .. => 0x0FFF0FFF
  | .dataSyncBarrier .. => 0x0FFF0FFF
  | .dataMemBarrier .. => 0x0FFF0FFF

/-- The match word of the row of an instruction. -/
def TableRow.matchWord : Instr → Word
  | .cdp2 .. => 0xFE000F00
  | .cdp .. => 0x0E000F00
  | .mrc2 .. => 0xFE100F10
  | .mcr2 .. => 0xFE000F10
  | .mrc .. => 0x0E100F10
  | .mcr .. => 0x0E000F10
  | .mrrc2 .. => 0xFC500F00
  | .mcrr2 .. => 0xFC400F00
  | .mrrc .. => 0x0C500F00
  | .mcrr .. => 0x0C400F00
  | .ldcStcCorner .. => 0x0C000F00
  | .ldc2 .. => 0xFC100F00
  | .ldc .. => 0x0C100F00
  | .stc2 .. => 0xFC000F00
  | .stc .. => 0x0C000F00
  | .mrcMidr .. => 0x0E100F10
  | .mrcCtr .. => 0x0E100F30
  | .mrcTcmtr .. => 0x0E100F50
  | .mrcTlbtr .. => 0x0E100F70
  | .mrcMpuir .. => 0x0E100F90
  | .mrcId5 .. => 0x0E100FB0
  | .mrcId6 .. => 0x0E100FD0
  | .mrcId7 .. => 0x0E100FF0
  | .mrcCr .. => 0x0E110F10
  | .mcrCr .. => 0x0E010F10
  | .mrcAcr .. => 0x0E110F30
  | .mcrAcr .. => 0x0E010F30
  | .mrcCpacr .. => 0x0E110F50
  | .mcrCpacr .. => 0x0E010F50
  | .mrcC2 .. => 0x0E120F10
  | .mcrC2 .. => 0x0E020F10
  | .mrcC3 .. => 0x0E130F10
  | .mcrC3 .. => 0x0E030F10
  | .mrcC4 .. => 0x0E140F10
  | .mcrC4 .. => 0x0E040F10
  | .mrcC5 .. => 0x0E150F10
  | .mcrC5 .. => 0x0E050F10
  | .mrcC6 .. => 0x0E160F10
  | .mcrC6 .. => 0x0E060F10
  | .mrcC7 .. => 0x0E170F10
  | .mcrC7 .. => 0x0E070F10
  | .mrcC8 .. => 0x0E180F10
  | .mcrC8 .. => 0x0E080F10
  | .mrcC9 .. => 0x0E190F10
  | .mcrC9 .. => 0x0E090F10
  | .mrcC10 .. => 0x0E1A0F10
  | .mcrC10 .. => 0x0E0A0F10
  | .mrcC11 .. => 0x0E1B0F10
  | .mcrC11 .. => 0x0E0B0F10
  | .mrcC12 .. => 0x0E1C0F10
  | .mcrC12 .. => 0x0E0C0F10
  | .mrcC13 .. => 0x0E1D0F10
  | .mcrC13 .. => 0x0E0D0F10
  | .mrcC14 .. => 0x0E1E0F10
  | .mcrC14 .. => 0x0E0E0F10
  | .mrcC15 .. => 0x0E1F0F10
  | .mcrC15 .. => 0x0E0F0F10
  | .prefetchFlush .. => 0x0E070F95
  | .dataSyncBarrier .. => 0x0E070F9A
  | .dataMemBarrier .. => 0x0E070FBA

/-- The word of the instruction is one of its row's. -/
def TableRow.Statement (i : Instr) : Prop :=
  encode i &&& TableRow.mask i = TableRow.matchWord i

theorem TableRow.cdp2 (opc1 crn crd : BitVec 4) (opc2 : BitVec 3) (crm : BitVec 4) :
    TableRow.Statement (.cdp2 opc1 crn crd opc2 crm) := by
  apply cdpWord_row (mask := 0xFF000F10) (v := 0xFE000F00) <;> first | rfl | exact BitVec.and_zero

theorem TableRow.cdp (cond : Cond) (opc1 crn crd : BitVec 4) (opc2 : BitVec 3) (crm : BitVec 4) :
    TableRow.Statement (.cdp cond opc1 crn crd opc2 crm) := by
  apply cdpWord_row (mask := 0x0F000F10) (v := 0x0E000F00) <;> first | rfl | exact BitVec.and_zero

theorem TableRow.mrc2 (opc1 : BitVec 3) (crn rd : BitVec 4) (opc2 : BitVec 3) (crm : BitVec 4) :
    TableRow.Statement (.mrc2 opc1 crn rd opc2 crm) := by
  apply mcrWord_row (mask := 0xFF100F10) (v := 0xFE100F10) <;> first | rfl | exact BitVec.and_zero

theorem TableRow.mcr2 (opc1 : BitVec 3) (crn rd : BitVec 4) (opc2 : BitVec 3) (crm : BitVec 4) :
    TableRow.Statement (.mcr2 opc1 crn rd opc2 crm) := by
  apply mcrWord_row (mask := 0xFF100F10) (v := 0xFE000F10) <;> first | rfl | exact BitVec.and_zero

theorem TableRow.mrc (cond : Cond) (opc1 : BitVec 3) (crn rd : BitVec 4) (opc2 : BitVec 3) (crm : BitVec 4) :
    TableRow.Statement (.mrc cond opc1 crn rd opc2 crm) := by
  apply mcrWord_row (mask := 0x0F100F10) (v := 0x0E100F10) <;> first | rfl | exact BitVec.and_zero

theorem TableRow.mcr (cond : Cond) (opc1 : BitVec 3) (crn rd : BitVec 4) (opc2 : BitVec 3) (crm : BitVec 4) :
    TableRow.Statement (.mcr cond opc1 crn rd opc2 crm) := by
  apply mcrWord_row (mask := 0x0F100F10) (v := 0x0E000F10) <;> first | rfl | exact BitVec.and_zero

theorem TableRow.mrrc2 (rn rd opcode crm : BitVec 4) :
    TableRow.Statement (.mrrc2 rn rd opcode crm) := by
  apply mcrrWord_row (mask := 0xFFF00F00) (v := 0xFC500F00) <;> first | rfl | exact BitVec.and_zero

theorem TableRow.mcrr2 (rn rd opcode crm : BitVec 4) :
    TableRow.Statement (.mcrr2 rn rd opcode crm) := by
  apply mcrrWord_row (mask := 0xFFF00F00) (v := 0xFC400F00) <;> first | rfl | exact BitVec.and_zero

theorem TableRow.mrrc (cond : Cond) (rn rd opcode crm : BitVec 4) :
    TableRow.Statement (.mrrc cond rn rd opcode crm) := by
  apply mcrrWord_row (mask := 0x0FF00F00) (v := 0x0C500F00) <;> first | rfl | exact BitVec.and_zero

theorem TableRow.mcrr (cond : Cond) (rn rd opcode crm : BitVec 4) :
    TableRow.Statement (.mcrr cond rn rd opcode crm) := by
  apply mcrrWord_row (mask := 0x0FF00F00) (v := 0x0C400F00) <;> first | rfl | exact BitVec.and_zero

theorem TableRow.ldcStcCorner (cond : Option Cond) (l : BitVec 1) (rn crd : BitVec 4) (offset : BitVec 8) :
    TableRow.Statement (.ldcStcCorner cond l rn crd offset) := by
  apply ldcWord_row (mask := 0x0FE00F00) (v := 0x0C000F00) <;> first | rfl | exact BitVec.and_zero

theorem TableRow.ldc2 (p u n w : BitVec 1) (rn crd : BitVec 4) (offset : BitVec 8) :
    TableRow.Statement (.ldc2 p u n w rn crd offset) := by
  apply ldcWord_row (mask := 0xFE100F00) (v := 0xFC100F00) <;> first | rfl | exact BitVec.and_zero

theorem TableRow.ldc (cond : Cond) (p u n w : BitVec 1) (rn crd : BitVec 4) (offset : BitVec 8) :
    TableRow.Statement (.ldc cond p u n w rn crd offset) := by
  apply ldcWord_row (mask := 0x0E100F00) (v := 0x0C100F00) <;> first | rfl | exact BitVec.and_zero

theorem TableRow.stc2 (p u n w : BitVec 1) (rn crd : BitVec 4) (offset : BitVec 8) :
    TableRow.Statement (.stc2 p u n w rn crd offset) := by
  apply ldcWord_row (mask := 0xFE100F00) (v := 0xFC000F00) <;> first | rfl | exact BitVec.and_zero

theorem TableRow.stc (cond : Cond) (p u n w : BitVec 1) (rn crd : BitVec 4) (offset : BitVec 8) :
    TableRow.Statement (.stc cond p u n w rn crd offset) := by
  apply ldcWord_row (mask := 0x0E100F00) (v := 0x0C000F00) <;> first | rfl | exact BitVec.and_zero

theorem TableRow.mrcMidr (cond : Cond) (rd : BitVec 4) :
    TableRow.Statement (.mrcMidr cond rd) := by
  apply mcrWord_row (mask := 0x0FFF0FFF) (v := 0x0E100F10) <;> first | rfl | exact BitVec.and_zero

theorem TableRow.mrcCtr (cond : Cond) (rd : BitVec 4) :
    TableRow.Statement (.mrcCtr cond rd) := by
  apply mcrWord_row (mask := 0x0FFF0FFF) (v := 0x0E100F30) <;> first | rfl | exact BitVec.and_zero

theorem TableRow.mrcTcmtr (cond : Cond) (rd : BitVec 4) :
    TableRow.Statement (.mrcTcmtr cond rd) := by
  apply mcrWord_row (mask := 0x0FFF0FFF) (v := 0x0E100F50) <;> first | rfl | exact BitVec.and_zero

theorem TableRow.mrcTlbtr (cond : Cond) (rd : BitVec 4) :
    TableRow.Statement (.mrcTlbtr cond rd) := by
  apply mcrWord_row (mask := 0x0FFF0FFF) (v := 0x0E100F70) <;> first | rfl | exact BitVec.and_zero

theorem TableRow.mrcMpuir (cond : Cond) (rd : BitVec 4) :
    TableRow.Statement (.mrcMpuir cond rd) := by
  apply mcrWord_row (mask := 0x0FFF0FFF) (v := 0x0E100F90) <;> first | rfl | exact BitVec.and_zero

theorem TableRow.mrcId5 (cond : Cond) (rd : BitVec 4) :
    TableRow.Statement (.mrcId5 cond rd) := by
  apply mcrWord_row (mask := 0x0FFF0FFF) (v := 0x0E100FB0) <;> first | rfl | exact BitVec.and_zero

theorem TableRow.mrcId6 (cond : Cond) (rd : BitVec 4) :
    TableRow.Statement (.mrcId6 cond rd) := by
  apply mcrWord_row (mask := 0x0FFF0FFF) (v := 0x0E100FD0) <;> first | rfl | exact BitVec.and_zero

theorem TableRow.mrcId7 (cond : Cond) (rd : BitVec 4) :
    TableRow.Statement (.mrcId7 cond rd) := by
  apply mcrWord_row (mask := 0x0FFF0FFF) (v := 0x0E100FF0) <;> first | rfl | exact BitVec.and_zero

theorem TableRow.mrcCr (cond : Cond) (rd : BitVec 4) :
    TableRow.Statement (.mrcCr cond rd) := by
  apply mcrWord_row (mask := 0x0FFF0FFF) (v := 0x0E110F10) <;> first | rfl | exact BitVec.and_zero

theorem TableRow.mcrCr (cond : Cond) (rd : BitVec 4) :
    TableRow.Statement (.mcrCr cond rd) := by
  apply mcrWord_row (mask := 0x0FFF0FFF) (v := 0x0E010F10) <;> first | rfl | exact BitVec.and_zero

theorem TableRow.mrcAcr (cond : Cond) (rd : BitVec 4) :
    TableRow.Statement (.mrcAcr cond rd) := by
  apply mcrWord_row (mask := 0x0FFF0FFF) (v := 0x0E110F30) <;> first | rfl | exact BitVec.and_zero

theorem TableRow.mcrAcr (cond : Cond) (rd : BitVec 4) :
    TableRow.Statement (.mcrAcr cond rd) := by
  apply mcrWord_row (mask := 0x0FFF0FFF) (v := 0x0E010F30) <;> first | rfl | exact BitVec.and_zero

theorem TableRow.mrcCpacr (cond : Cond) (rd : BitVec 4) :
    TableRow.Statement (.mrcCpacr cond rd) := by
  apply mcrWord_row (mask := 0x0FFF0FFF) (v := 0x0E110F50) <;> first | rfl | exact BitVec.and_zero

theorem TableRow.mcrCpacr (cond : Cond) (rd : BitVec 4) :
    TableRow.Statement (.mcrCpacr cond rd) := by
  apply mcrWord_row (mask := 0x0FFF0FFF) (v := 0x0E010F50) <;> first | rfl | exact BitVec.and_zero

theorem TableRow.mrcC2 (cond : Cond) (opc1 : BitVec 3) (rd : BitVec 4) (opc2 : BitVec 3) (crm : BitVec 4) :
    TableRow.Statement (.mrcC2 cond opc1 rd opc2 crm) := by
  apply mcrWord_row (mask := 0x0F1F0F10) (v := 0x0E120F10) <;> first | rfl | exact BitVec.and_zero

theorem TableRow.mcrC2 (cond : Cond) (opc1 : BitVec 3) (rd : BitVec 4) (opc2 : BitVec 3) (crm : BitVec 4) :
    TableRow.Statement (.mcrC2 cond opc1 rd opc2 crm) := by
  apply mcrWord_row (mask := 0x0F1F0F10) (v := 0x0E020F10) <;> first | rfl | exact BitVec.and_zero

theorem TableRow.mrcC3 (cond : Cond) (opc1 : BitVec 3) (rd : BitVec 4) (opc2 : BitVec 3) (crm : BitVec 4) :
    TableRow.Statement (.mrcC3 cond opc1 rd opc2 crm) := by
  apply mcrWord_row (mask := 0x0F1F0F10) (v := 0x0E130F10) <;> first | rfl | exact BitVec.and_zero

theorem TableRow.mcrC3 (cond : Cond) (opc1 : BitVec 3) (rd : BitVec 4) (opc2 : BitVec 3) (crm : BitVec 4) :
    TableRow.Statement (.mcrC3 cond opc1 rd opc2 crm) := by
  apply mcrWord_row (mask := 0x0F1F0F10) (v := 0x0E030F10) <;> first | rfl | exact BitVec.and_zero

theorem TableRow.mrcC4 (cond : Cond) (opc1 : BitVec 3) (rd : BitVec 4) (opc2 : BitVec 3) (crm : BitVec 4) :
    TableRow.Statement (.mrcC4 cond opc1 rd opc2 crm) := by
  apply mcrWord_row (mask := 0x0F1F0F10) (v := 0x0E140F10) <;> first | rfl | exact BitVec.and_zero

theorem TableRow.mcrC4 (cond : Cond) (opc1 : BitVec 3) (rd : BitVec 4) (opc2 : BitVec 3) (crm : BitVec 4) :
    TableRow.Statement (.mcrC4 cond opc1 rd opc2 crm) := by
  apply mcrWord_row (mask := 0x0F1F0F10) (v := 0x0E040F10) <;> first | rfl | exact BitVec.and_zero

theorem TableRow.mrcC5 (cond : Cond) (opc1 : BitVec 3) (rd : BitVec 4) (opc2 : BitVec 3) (crm : BitVec 4) :
    TableRow.Statement (.mrcC5 cond opc1 rd opc2 crm) := by
  apply mcrWord_row (mask := 0x0F1F0F10) (v := 0x0E150F10) <;> first | rfl | exact BitVec.and_zero

theorem TableRow.mcrC5 (cond : Cond) (opc1 : BitVec 3) (rd : BitVec 4) (opc2 : BitVec 3) (crm : BitVec 4) :
    TableRow.Statement (.mcrC5 cond opc1 rd opc2 crm) := by
  apply mcrWord_row (mask := 0x0F1F0F10) (v := 0x0E050F10) <;> first | rfl | exact BitVec.and_zero

theorem TableRow.mrcC6 (cond : Cond) (opc1 : BitVec 3) (rd : BitVec 4) (opc2 : BitVec 3) (crm : BitVec 4) :
    TableRow.Statement (.mrcC6 cond opc1 rd opc2 crm) := by
  apply mcrWord_row (mask := 0x0F1F0F10) (v := 0x0E160F10) <;> first | rfl | exact BitVec.and_zero

theorem TableRow.mcrC6 (cond : Cond) (opc1 : BitVec 3) (rd : BitVec 4) (opc2 : BitVec 3) (crm : BitVec 4) :
    TableRow.Statement (.mcrC6 cond opc1 rd opc2 crm) := by
  apply mcrWord_row (mask := 0x0F1F0F10) (v := 0x0E060F10) <;> first | rfl | exact BitVec.and_zero

theorem TableRow.mrcC7 (cond : Cond) (opc1 : BitVec 3) (rd : BitVec 4) (opc2 : BitVec 3) (crm : BitVec 4) :
    TableRow.Statement (.mrcC7 cond opc1 rd opc2 crm) := by
  apply mcrWord_row (mask := 0x0F1F0F10) (v := 0x0E170F10) <;> first | rfl | exact BitVec.and_zero

theorem TableRow.mcrC7 (cond : Cond) (opc1 : BitVec 3) (rd : BitVec 4) (opc2 : BitVec 3) (crm : BitVec 4) :
    TableRow.Statement (.mcrC7 cond opc1 rd opc2 crm) := by
  apply mcrWord_row (mask := 0x0F1F0F10) (v := 0x0E070F10) <;> first | rfl | exact BitVec.and_zero

theorem TableRow.mrcC8 (cond : Cond) (opc1 : BitVec 3) (rd : BitVec 4) (opc2 : BitVec 3) (crm : BitVec 4) :
    TableRow.Statement (.mrcC8 cond opc1 rd opc2 crm) := by
  apply mcrWord_row (mask := 0x0F1F0F10) (v := 0x0E180F10) <;> first | rfl | exact BitVec.and_zero

theorem TableRow.mcrC8 (cond : Cond) (opc1 : BitVec 3) (rd : BitVec 4) (opc2 : BitVec 3) (crm : BitVec 4) :
    TableRow.Statement (.mcrC8 cond opc1 rd opc2 crm) := by
  apply mcrWord_row (mask := 0x0F1F0F10) (v := 0x0E080F10) <;> first | rfl | exact BitVec.and_zero

theorem TableRow.mrcC9 (cond : Cond) (opc1 : BitVec 3) (rd : BitVec 4) (opc2 : BitVec 3) (crm : BitVec 4) :
    TableRow.Statement (.mrcC9 cond opc1 rd opc2 crm) := by
  apply mcrWord_row (mask := 0x0F1F0F10) (v := 0x0E190F10) <;> first | rfl | exact BitVec.and_zero

theorem TableRow.mcrC9 (cond : Cond) (opc1 : BitVec 3) (rd : BitVec 4) (opc2 : BitVec 3) (crm : BitVec 4) :
    TableRow.Statement (.mcrC9 cond opc1 rd opc2 crm) := by
  apply mcrWord_row (mask := 0x0F1F0F10) (v := 0x0E090F10) <;> first | rfl | exact BitVec.and_zero

theorem TableRow.mrcC10 (cond : Cond) (opc1 : BitVec 3) (rd : BitVec 4) (opc2 : BitVec 3) (crm : BitVec 4) :
    TableRow.Statement (.mrcC10 cond opc1 rd opc2 crm) := by
  apply mcrWord_row (mask := 0x0F1F0F10) (v := 0x0E1A0F10) <;> first | rfl | exact BitVec.and_zero

theorem TableRow.mcrC10 (cond : Cond) (opc1 : BitVec 3) (rd : BitVec 4) (opc2 : BitVec 3) (crm : BitVec 4) :
    TableRow.Statement (.mcrC10 cond opc1 rd opc2 crm) := by
  apply mcrWord_row (mask := 0x0F1F0F10) (v := 0x0E0A0F10) <;> first | rfl | exact BitVec.and_zero

theorem TableRow.mrcC11 (cond : Cond) (opc1 : BitVec 3) (rd : BitVec 4) (opc2 : BitVec 3) (crm : BitVec 4) :
    TableRow.Statement (.mrcC11 cond opc1 rd opc2 crm) := by
  apply mcrWord_row (mask := 0x0F1F0F10) (v := 0x0E1B0F10) <;> first | rfl | exact BitVec.and_zero

theorem TableRow.mcrC11 (cond : Cond) (opc1 : BitVec 3) (rd : BitVec 4) (opc2 : BitVec 3) (crm : BitVec 4) :
    TableRow.Statement (.mcrC11 cond opc1 rd opc2 crm) := by
  apply mcrWord_row (mask := 0x0F1F0F10) (v := 0x0E0B0F10) <;> first | rfl | exact BitVec.and_zero

theorem TableRow.mrcC12 (cond : Cond) (opc1 : BitVec 3) (rd : BitVec 4) (opc2 : BitVec 3) (crm : BitVec 4) :
    TableRow.Statement (.mrcC12 cond opc1 rd opc2 crm) := by
  apply mcrWord_row (mask := 0x0F1F0F10) (v := 0x0E1C0F10) <;> first | rfl | exact BitVec.and_zero

theorem TableRow.mcrC12 (cond : Cond) (opc1 : BitVec 3) (rd : BitVec 4) (opc2 : BitVec 3) (crm : BitVec 4) :
    TableRow.Statement (.mcrC12 cond opc1 rd opc2 crm) := by
  apply mcrWord_row (mask := 0x0F1F0F10) (v := 0x0E0C0F10) <;> first | rfl | exact BitVec.and_zero

theorem TableRow.mrcC13 (cond : Cond) (opc1 : BitVec 3) (rd : BitVec 4) (opc2 : BitVec 3) (crm : BitVec 4) :
    TableRow.Statement (.mrcC13 cond opc1 rd opc2 crm) := by
  apply mcrWord_row (mask := 0x0F1F0F10) (v := 0x0E1D0F10) <;> first | rfl | exact BitVec.and_zero

theorem TableRow.mcrC13 (cond : Cond) (opc1 : BitVec 3) (rd : BitVec 4) (opc2 : BitVec 3) (crm : BitVec 4) :
    TableRow.Statement (.mcrC13 cond opc1 rd opc2 crm) := by
  apply mcrWord_row (mask := 0x0F1F0F10) (v := 0x0E0D0F10) <;> first | rfl | exact BitVec.and_zero

theorem TableRow.mrcC14 (cond : Cond) (opc1 : BitVec 3) (rd : BitVec 4) (opc2 : BitVec 3) (crm : BitVec 4) :
    TableRow.Statement (.mrcC14 cond opc1 rd opc2 crm) := by
  apply mcrWord_row (mask := 0x0F1F0F10) (v := 0x0E1E0F10) <;> first | rfl | exact BitVec.and_zero

theorem TableRow.mcrC14 (cond : Cond) (opc1 : BitVec 3) (rd : BitVec 4) (opc2 : BitVec 3) (crm : BitVec 4) :
    TableRow.Statement (.mcrC14 cond opc1 rd opc2 crm) := by
  apply mcrWord_row (mask := 0x0F1F0F10) (v := 0x0E0E0F10) <;> first | rfl | exact BitVec.and_zero

theorem TableRow.mrcC15 (cond : Cond) (opc1 : BitVec 3) (rd : BitVec 4) (opc2 : BitVec 3) (crm : BitVec 4) :
    TableRow.Statement (.mrcC15 cond opc1 rd opc2 crm) := by
  apply mcrWord_row (mask := 0x0F1F0F10) (v := 0x0E1F0F10) <;> first | rfl | exact BitVec.and_zero

theorem TableRow.mcrC15 (cond : Cond) (opc1 : BitVec 3) (rd : BitVec 4) (opc2 : BitVec 3) (crm : BitVec 4) :
    TableRow.Statement (.mcrC15 cond opc1 rd opc2 crm) := by
  apply mcrWord_row (mask := 0x0F1F0F10) (v := 0x0E0F0F10) <;> first | rfl | exact BitVec.and_zero

theorem TableRow.prefetchFlush (cond : Cond) (rd : BitVec 4) :
    TableRow.Statement (.prefetchFlush cond rd) := by
  apply mcrWord_row (mask := 0x0FFF0FFF) (v := 0x0E070F95) <;> first | rfl | exact BitVec.and_zero

theorem TableRow.dataSyncBarrier (cond : Cond) (rd : BitVec 4) :
    TableRow.Statement (.dataSyncBarrier cond rd) := by
  apply mcrWord_row (mask := 0x0FFF0FFF) (v := 0x0E070F9A) <;> first | rfl | exact BitVec.and_zero

theorem TableRow.dataMemBarrier (cond : Cond) (rd : BitVec 4) :
    TableRow.Statement (.dataMemBarrier cond rd) := by
  apply mcrWord_row (mask := 0x0FFF0FFF) (v := 0x0E070FBA) <;> first | rfl | exact BitVec.and_zero

end Sys2Proof.Laws
end

