-- ==== Sys2Proof/Laws/Registers.lean ====
section
/-! SUPPORT. The register file: no two registers of a mode share a place, and reading after writing. -/

namespace Sys2Proof.Machine

open Sys2Proof

/-- R0 to R14 of one mode are fifteen places. -/
theorem regSlot_injective (m : BitVec 5) :
    ∀ i j : BitVec 4, i ≠ 15 → j ≠ 15 → regSlot m i = regSlot m j → i = j := by
  revert m
  decide

theorem State.regs_writeReg (s : State) (i : BitVec 4) (v : Word) (k : Fin 30) :
    (s.writeReg i v).regs[k] = if k = regSlot s.modeBits i then v else s.regs[k] := by
  simp only [State.writeReg_regs, Fin.getElem_fin, Vector.getElem_set, Fin.ext_iff, eq_comm]

@[simp] theorem State.modeBits_writeReg (s : State) (i : BitVec 4) (v : Word) :
    (s.writeReg i v).modeBits = s.modeBits := rfl

@[simp] theorem State.modeBits_advance (s : State) : s.advance.modeBits = s.modeBits := rfl

@[simp] theorem State.readReg_advance (s : State) (i : BitVec 4) : s.advance.readReg i = s.readReg i := rfl

/-- A register reads as written. -/
@[simp] theorem State.readReg_writeReg (s : State) (i : BitVec 4) (v : Word) : (s.writeReg i v).readReg i = v := by
  show (s.writeReg i v).regs[regSlot s.modeBits i] = v
  rw [State.regs_writeReg, if_pos rfl]

/-- Another register of the mode is as before. -/
theorem State.readReg_writeReg_ne (s : State) {i j : BitVec 4} (hi : i ≠ 15) (hj : j ≠ 15) (h : j ≠ i) (v : Word) :
    (s.writeReg i v).readReg j = s.readReg j := by
  have hs : regSlot s.modeBits j ≠ regSlot s.modeBits i := fun e => h (regSlot_injective _ _ _ hj hi e)
  show (s.writeReg i v).regs[regSlot s.modeBits j] = s.readReg j
  rw [State.regs_writeReg, if_neg hs, State.readReg]

/-- Reading after any update that leaves registers and status alone. -/
theorem State.readReg_congr {s t : State} (hr : t.regs = s.regs) (hc : t.cpsr = s.cpsr) (i : BitVec 4) :
    t.readReg i = s.readReg i := by
  simp [State.readReg, State.modeBits, hr, hc]

end Sys2Proof.Machine
end

