-- ==== Sys2Proof/Laws/Step.lean ====
section
/-! SUPPORT. What taking an exception and moving on leave, and everything an instruction and a step can do, once, so that a property of every step is one case analysis. -/

namespace Sys2Proof.Machine

open Sys2Proof

/-- Taking an exception enters it, in any implementation. -/
theorem enters_takeException (s : State) (e : Exc) : Enters e s (s.takeException e) where
  link h := by
    simp only [State.takeException_regs, Fin.getElem_fin, Vector.getElem_set_self]
    exact addressAfter_of_lt h _
  saved := by simp
  mode := by simp
  arm := entryStatus_getLsbD _ _ _ 5
  fiqMask := entryStatus_getLsbD _ _ _ 6
  irqMask := entryStatus_getLsbD _ _ _ 7
  abortMask := entryStatus_getLsbD _ _ _ 8
  endian := entryStatus_getLsbD _ _ _ 9
  rest := entryStatus_rest _ _ _
  crEff := rfl
  cpacrEff := rfl
  regs k hk := by
    simp only [State.takeException_regs, Fin.getElem_fin]
    exact Vector.getElem_set_ne _ _ fun h => hk (Fin.ext h.symm)
  spsr k hk := by
    simp only [State.takeException_spsr, Fin.getElem_fin]
    exact Vector.getElem_set_ne _ _ fun h => hk (Fin.ext h.symm)
  others p hp := by
    cases p <;> first | rfl | exact fun _ => rfl | simp at hp

/-- The Undefined Instruction exception enters its handler and records nothing. -/
theorem entersUndefined_takeException (s : State) : EntersUndefined s (s.takeException .undefinedInstruction) where
  toEnters := enters_takeException s _
  vector := rfl
  ext := rfl

/-- Moving on moves nothing but the pc. -/
theorem onlyAdvances_advance (s : State) : OnlyAdvances s s.advance :=
  ⟨fun h => by simp [addressAfter_of_lt h], fun _ => rfl, fun p _ => by cases p <;> first | rfl | exact fun _ => rfl⟩
/-- Everything a next state can be. -/
inductive Effect (s : State) : State → Prop where
  /-- The pc moves on and nothing else: a failed condition. -/
  | passes : Effect s s.advance
  /-- The Undefined Instruction exception. -/
  | traps : Effect s (s.takeException .undefinedInstruction)
  /-- A register of ID, control or status is read. -/
  | reads (rd : BitVec 4) (v : Word) (user : s.inUserMode = false) : Effect s (s.writeReg rd v).advance
  /-- The handler serves a read. -/
  | handlerReads (rd : BitVec 4) (v : Word) (a : RegAddr) (s' : State) (user : s.inUserMode = false)
      (done : extAnswer ⟨.read a, 0, 0⟩ s = .done s') : Effect s (s'.writeReg rd v).advance
  /-- The handler serves a two-register read. -/
  | handlerReadsPair (rd rn op crm : BitVec 4) (v1 v2 : Word) (s' : State) (user : s.inUserMode = false)
      (done : extAnswer ⟨.mrrc op crm, 0, 0⟩ s = .done s') : Effect s (s'.writeRegPair rd rn v1 v2).advance
  /-- The Control register is written. -/
  | writesControl (v : Word) (user : s.inUserMode = true → s.cfg.userAllows (.write ⟨0, 1, 0, 0⟩) = true) :
      Effect s (s.crWrite v).advance
  /-- The Auxiliary control register is written. -/
  | writesAuxiliary (v : Word) (user : s.inUserMode = true → s.cfg.userAllows (.write ⟨0, 1, 0, 1⟩) = true) :
      Effect s (s.acrWrite v).advance
  /-- The Coprocessor access register is written. -/
  | writesAccess (v : Word) (rights : hasReservedRights (v &&& s.cfg.implMask) = false)
      (user : s.inUserMode = true → s.cfg.userAllows (.write ⟨0, 1, 0, 2⟩) = true) : Effect s (s.cpacrWrite v).advance
  /-- The handler serves a write. -/
  | handlerWrites (a : RegAddr) (v : Word) (s' : State) (outside : ¬ (a.opc1 = 0 ∧ a.crn.toNat ≤ 1))
      (user : s.inUserMode = true → s.cfg.userAllows (.write a) = true)
      (done : extAnswer ⟨.write a, v, 0⟩ s = .done s') : Effect s s'.advance
  /-- The handler serves a two-register write. -/
  | handlerWritesPair (op crm : BitVec 4) (v1 v2 : Word) (s' : State)
      (user : s.inUserMode = true → s.cfg.userAllows (.mcrr op crm) = true)
      (done : extAnswer ⟨.mcrr op crm, v1, v2⟩ s = .done s') : Effect s s'.advance

theorem effect_of_mrcOp {c : Cond} {rd : BitVec 4} {a : RegAddr} {s t : State} (h : mrcOp c rd a s = .next t) :
    Effect s t := by
  rcases mrcOp_next h with rfl | rfl | ⟨-, hu, v, s', hv, rfl⟩
  · exact .passes
  · exact .traps
  · rcases cp15Read_value hv with rfl | hd
    · exact .reads rd v hu
    · exact .handlerReads rd v a s' hu hd

theorem effect_of_mcrOp {c : Cond} {rd : BitVec 4} {a : RegAddr} {s t : State} (h : mcrOp c rd a s = .next t) :
    Effect s t := by
  rcases mcrOp_next h with rfl | rfl | ⟨-, hu, s', hv, rfl⟩
  · exact .passes
  · exact .traps
  · rcases cp15Write_done hv with ⟨rfl, rfl⟩ | ⟨rfl, rfl⟩ | ⟨rfl, hr, rfl⟩ | ⟨ho, hd⟩
    · exact .writesControl _ hu
    · exact .writesAuxiliary _ hu
    · exact .writesAccess _ hr hu
    · exact .handlerWrites a _ s' ho hu hd

theorem effect_of_mcrrOp {c : Cond} {rn rd op crm : BitVec 4} {s t : State} (h : mcrrOp c rn rd op crm s = .next t) :
    Effect s t := by
  rcases mcrrOp_next h with rfl | rfl | ⟨-, hu, s', hd, rfl⟩
  · exact .passes
  · exact .traps
  · exact .handlerWritesPair op crm _ _ s' hu hd

theorem effect_of_mrrcOp {c : Cond} {rn rd op crm : BitVec 4} {s t : State} (h : mrrcOp c rn rd op crm s = .next t) :
    Effect s t := by
  rcases mrrcOp_next h with rfl | rfl | ⟨-, hu, s', v1, v2, hd, rfl⟩
  · exact .passes
  · exact .traps
  · exact .handlerReadsPair rd rn op crm v1 v2 s' hu hd

theorem effect_of_undefinedForm {c : Option Cond} {s t : State} (h : undefinedForm c s = .next t) : Effect s t := by
  rcases undefinedForm_next h with rfl | rfl
  · exact .passes
  · exact .traps

/-- Everything an instruction can do. -/
theorem exec_next {i : Instr} {s t : State} (h : exec i s = .next t) : Effect s t := by
  cases i <;>
    first
      | exact effect_of_undefinedForm h
      | exact effect_of_undefinedForm (c := none) h
      | exact effect_of_mrrcOp h
      | exact effect_of_mcrrOp h
      | exact effect_of_mrcOp h
      | exact effect_of_mcrOp h

/-- A word of another coprocessor passes its condition by or traps. -/
theorem effect_of_execCoprocessor {n : BitVec 4} {c : Option Cond} {s t : State}
    (h : execCoprocessor n c s = .next t) : Effect s t := by
  unfold execCoprocessor undefinedInstruction at h
  split at h
  · cases h
    exact .passes
  · split at h
    · cases h
    · split at h <;> cases h
      exact .traps

theorem effect_of_execCoprocessorCorner {c : Option Cond} {s t : State} (h : execCoprocessorCorner c s = .next t) :
    Effect s t :=
  effect_of_undefinedForm h

/-- A step runs the word at the pc, in ARM state, from a word-aligned pc. -/
theorem step_eq_runDecoded {s : State} {w : Word} (ht : s.thumb = false) (ha : s.pc.toNat % 4 = 0)
    (hw : s.mem.readWord s.pc.toNat = some w) : step s = runDecoded (decode w) s := by
  simp [step, ht, ha, hw]

/-- Only then does it answer a next state. -/
theorem step_next_fetch {s t : State} (h : step s = .next t) :
    s.thumb = false ∧ s.pc.toNat % 4 = 0 ∧
      ∃ w, s.mem.readWord s.pc.toNat = some w ∧ runDecoded (decode w) s = .next t := by
  unfold step at h
  split at h
  · cases h
  next ht =>
    split at h
    · cases h
    next ha =>
      split at h
      · cases h
      next w hw => exact ⟨by simpa using ht, by omega, w, hw, h⟩

/-- Everything a step can do. -/
theorem step_next {s t : State} (h : step s = .next t) : Effect s t := by
  obtain ⟨-, -, w, -, hr⟩ := step_next_fetch h
  unfold runDecoded at hr
  split at hr
  · exact exec_next hr
  · exact effect_of_execCoprocessor hr
  · exact effect_of_execCoprocessorCorner hr
  · cases hr

/-- The two words of an MRRC go to the two registers, or, of one register, a free value to it. -/
theorem State.writeRegPair_cases (s : State) (rd rn : BitVec 4) (v1 v2 : Word) :
    (∃ v, s.writeRegPair rd rn v1 v2 = s.writeReg rd v) ∨
    s.writeRegPair rd rn v1 v2 = (s.writeReg rd v1).writeReg rn v2 := by
  unfold State.writeRegPair
  split
  · exact .inl ⟨_, rfl⟩
  · exact .inr rfl

end Sys2Proof.Machine
end

