-- ==== Sys2Proof/Tests/Slice0.lean ====
section
/-! SUPPORT. Tests: the smoke of WellFormed, a word written out from the spec's encoding for every constructor, one-step vectors
of 95_test_vectors.md (profile T unless said otherwise), and a witness for every statement that has hypotheses. -/

namespace Sys2Proof.Tests

open Sys2Proof Sys2Proof.Machine

/-! ### WellFormed refuses -/

/-- `mrc` may not carry the fields of a register-level row: c0, c1 and c2. -/
theorem test_wf_mrc_row :
    (Instr.mrc .al 0 0 0 7 0).wellFormed = false ∧ (Instr.mrc .al 0 1 0 2 0).wellFormed = false ∧
    (Instr.mrc .al 3 2 0 0 5).wellFormed = false ∧ (Instr.mrc .al 0 1 0 3 0).wellFormed = true := by decide

/-- `mcr` may not carry the fields of a register-level row; a write of c0 has none. -/
theorem test_wf_mcr_row :
    (Instr.mcr .al 0 1 0 0 0).wellFormed = false ∧ (Instr.mcr .al 0 15 0 0 0).wellFormed = false ∧
    (Instr.mcr .al 0 0 0 0 0).wellFormed = true := by decide

/-- `mcrC7` may not carry the fields of a barrier operation. -/
theorem test_wf_barrier :
    (Instr.mcrC7 .al 0 0 4 5).wellFormed = false ∧ (Instr.mcrC7 .al 0 0 4 10).wellFormed = false ∧
    (Instr.mcrC7 .al 0 0 5 10).wellFormed = false ∧ (Instr.mcrC7 .al 0 0 5 5).wellFormed = true := by decide

/-- LDC and STC may not carry P = U = W = 0. -/
theorem test_wf_addressing :
    (Instr.ldc2 0 0 1 0 0 0 0).wellFormed = false ∧ (Instr.ldc .al 0 0 0 0 0 0 0).wellFormed = false ∧
    (Instr.stc2 0 0 0 0 0 0 0).wellFormed = false ∧ (Instr.stc .al 0 0 1 0 0 0 0).wellFormed = false ∧
    (Instr.stc .al 0 0 1 1 0 0 0).wellFormed = true := by decide

/-- Profile T meets what the spec asks of the parameters. -/
theorem test_profile_wf : Cfg.profileT.wf = true := by decide

/-! ### Every constructor's word, bit by bit from the patterns of 30_encoding.md -/

/-- `1111 1110 oooo nnnn dddd 1111 ppp 0 mmmm` and the same with a condition. -/
theorem test_decode_cdp :
    decode 0b1111_1110_1010_0011_0101_1111_110_0_1001 = .instr (.cdp2 0b1010 0b0011 0b0101 0b110 0b1001) ∧
    decode 0b1011_1110_0101_1100_0010_1111_011_0_0111 = .instr (.cdp .lt 0b0101 0b1100 0b0010 0b011 0b0111) := by decide

/-- `1111 1110 ooo L nnnn dddd 1111 ppp 1 mmmm`. -/
theorem test_decode_mrc2_mcr2 :
    decode 0b1111_1110_101_1_0011_0101_1111_110_1_1001 = .instr (.mrc2 0b101 0b0011 0b0101 0b110 0b1001) ∧
    decode 0b1111_1110_010_0_1100_1010_1111_001_1_0110 = .instr (.mcr2 0b010 0b1100 0b1010 0b001 0b0110) := by decide

/-- `cccc 1110 ooo L nnnn dddd 1111 ppp 1 mmmm`, of addresses that have no row of their own. -/
theorem test_decode_mrc_mcr :
    decode 0b0001_1110_101_1_0001_0110_1111_110_1_1001 = .instr (.mrc .ne 0b101 0b0001 0b0110 0b110 0b1001) ∧
    decode 0b1110_1110_000_1_0001_0110_1111_011_1_0000 = .instr (.mrc .al 0 1 6 3 0) ∧
    decode 0b1010_1110_010_0_0000_1010_1111_001_1_0110 = .instr (.mcr .ge 0b010 0b0000 0b1010 0b001 0b0110) ∧
    decode 0b1110_1110_000_0_0001_1010_1111_010_1_0001 = .instr (.mcr .al 0 1 10 2 1) := by decide

/-- `cccc 1100010 L nnnn dddd 1111 oooo mmmm`. -/
theorem test_decode_mrrc_mcrr :
    decode 0b1111_1100010_1_0001_0010_1111_0011_0100 = .instr (.mrrc2 1 2 3 4) ∧
    decode 0b1111_1100010_0_0101_0110_1111_0111_1000 = .instr (.mcrr2 5 6 7 8) ∧
    decode 0b0100_1100010_1_0001_0010_1111_0011_0100 = .instr (.mrrc .mi 1 2 3 4) ∧
    decode 0b0111_1100010_0_0101_0110_1111_0111_1000 = .instr (.mcrr .vc 5 6 7 8) := by decide

/-- `cccc 110 P U N W L nnnn dddd 1111 iiiiiiii` and the corner P = U = N = W = 0. -/
theorem test_decode_ldc_stc :
    decode 0b1111_110_1_0_0_1_1_0011_0101_1111_10100101 = .instr (.ldc2 1 0 0 1 3 5 0xA5) ∧
    decode 0b1000_110_0_1_1_0_1_0011_0101_1111_10100101 = .instr (.ldc .hi 0 1 1 0 3 5 0xA5) ∧
    decode 0b1111_110_0_0_1_1_0_0011_0101_1111_01011010 = .instr (.stc2 0 0 1 1 3 5 0x5A) ∧
    decode 0b1001_110_0_0_0_1_0_0011_0101_1111_01011010 = .instr (.stc .ls 0 0 0 1 3 5 0x5A) ∧
    decode 0b1111_1100000_1_0011_0101_1111_01011010 = .instr (.ldcStcCorner none 1 3 5 0x5A) ∧
    decode 0b0010_1100000_0_0011_0101_1111_01011010 = .instr (.ldcStcCorner (some .cs) 0 3 5 0x5A) := by decide

/-- c0, c0, 0 to 7. -/
theorem test_decode_id :
    decode 0b1110_1110_000_1_0000_0001_1111_000_1_0000 = .instr (.mrcMidr .al 1) ∧
    decode 0b1110_1110_000_1_0000_0010_1111_001_1_0000 = .instr (.mrcCtr .al 2) ∧
    decode 0b0000_1110_000_1_0000_0011_1111_010_1_0000 = .instr (.mrcTcmtr .eq 3) ∧
    decode 0b0011_1110_000_1_0000_0100_1111_011_1_0000 = .instr (.mrcTlbtr .cc 4) ∧
    decode 0b0101_1110_000_1_0000_0101_1111_100_1_0000 = .instr (.mrcMpuir .pl 5) ∧
    decode 0b0110_1110_000_1_0000_0110_1111_101_1_0000 = .instr (.mrcId5 .vs 6) ∧
    decode 0b1100_1110_000_1_0000_0111_1111_110_1_0000 = .instr (.mrcId6 .gt 7) ∧
    decode 0b1101_1110_000_1_0000_1000_1111_111_1_0000 = .instr (.mrcId7 .le 8) := by decide

/-- c1, c0, 0 to 2. -/
theorem test_decode_control :
    decode 0b1110_1110_000_1_0001_0001_1111_000_1_0000 = .instr (.mrcCr .al 1) ∧
    decode 0b1110_1110_000_0_0001_0010_1111_000_1_0000 = .instr (.mcrCr .al 2) ∧
    decode 0b1110_1110_000_1_0001_0011_1111_001_1_0000 = .instr (.mrcAcr .al 3) ∧
    decode 0b1110_1110_000_0_0001_0100_1111_001_1_0000 = .instr (.mcrAcr .al 4) ∧
    decode 0b1110_1110_000_1_0001_0101_1111_010_1_0000 = .instr (.mrcCpacr .al 5) ∧
    decode 0b1110_1110_000_0_0001_0110_1111_010_1_0000 = .instr (.mcrCpacr .al 6) := by decide

/-- Reads of c2 to c8. -/
theorem test_decode_mrc_c2_c8 :
    decode 0b1110_1110_001_1_0010_0011_1111_100_1_0101 = .instr (.mrcC2 .al 1 3 4 5) ∧
    decode 0b1110_1110_010_1_0011_0011_1111_101_1_0101 = .instr (.mrcC3 .al 2 3 5 5) ∧
    decode 0b1110_1110_011_1_0100_0011_1111_110_1_0101 = .instr (.mrcC4 .al 3 3 6 5) ∧
    decode 0b1110_1110_100_1_0101_0011_1111_111_1_0101 = .instr (.mrcC5 .al 4 3 7 5) ∧
    decode 0b1110_1110_101_1_0110_0011_1111_000_1_0101 = .instr (.mrcC6 .al 5 3 0 5) ∧
    decode 0b1110_1110_000_1_0111_0011_1111_100_1_0101 = .instr (.mrcC7 .al 0 3 4 5) ∧
    decode 0b1110_1110_111_1_1000_0011_1111_010_1_0101 = .instr (.mrcC8 .al 7 3 2 5) := by decide

/-- Reads of c9 to c15. -/
theorem test_decode_mrc_c9_c15 :
    decode 0b1110_1110_001_1_1001_0011_1111_100_1_0101 = .instr (.mrcC9 .al 1 3 4 5) ∧
    decode 0b1110_1110_010_1_1010_0011_1111_101_1_0101 = .instr (.mrcC10 .al 2 3 5 5) ∧
    decode 0b1110_1110_011_1_1011_0011_1111_110_1_0101 = .instr (.mrcC11 .al 3 3 6 5) ∧
    decode 0b1110_1110_100_1_1100_0011_1111_111_1_0101 = .instr (.mrcC12 .al 4 3 7 5) ∧
    decode 0b1110_1110_101_1_1101_0011_1111_000_1_0101 = .instr (.mrcC13 .al 5 3 0 5) ∧
    decode 0b1110_1110_110_1_1110_0011_1111_001_1_0101 = .instr (.mrcC14 .al 6 3 1 5) ∧
    decode 0b1110_1110_111_1_1111_0011_1111_010_1_0101 = .instr (.mrcC15 .al 7 3 2 5) := by decide

/-- Writes of c2 to c8. -/
theorem test_decode_mcr_c2_c8 :
    decode 0b1110_1110_001_0_0010_0011_1111_100_1_0101 = .instr (.mcrC2 .al 1 3 4 5) ∧
    decode 0b1110_1110_010_0_0011_0011_1111_101_1_0101 = .instr (.mcrC3 .al 2 3 5 5) ∧
    decode 0b1110_1110_011_0_0100_0011_1111_110_1_0101 = .instr (.mcrC4 .al 3 3 6 5) ∧
    decode 0b1110_1110_100_0_0101_0011_1111_111_1_0101 = .instr (.mcrC5 .al 4 3 7 5) ∧
    decode 0b1110_1110_101_0_0110_0011_1111_000_1_0101 = .instr (.mcrC6 .al 5 3 0 5) ∧
    decode 0b1110_1110_000_0_0111_0011_1111_000_1_0101 = .instr (.mcrC7 .al 0 3 0 5) ∧
    decode 0b1110_1110_111_0_1000_0011_1111_010_1_0101 = .instr (.mcrC8 .al 7 3 2 5) := by decide

/-- Writes of c9 to c15. -/
theorem test_decode_mcr_c9_c15 :
    decode 0b1110_1110_001_0_1001_0011_1111_100_1_0101 = .instr (.mcrC9 .al 1 3 4 5) ∧
    decode 0b1110_1110_010_0_1010_0011_1111_101_1_0101 = .instr (.mcrC10 .al 2 3 5 5) ∧
    decode 0b1110_1110_011_0_1011_0011_1111_110_1_0101 = .instr (.mcrC11 .al 3 3 6 5) ∧
    decode 0b1110_1110_100_0_1100_0011_1111_111_1_0101 = .instr (.mcrC12 .al 4 3 7 5) ∧
    decode 0b1110_1110_101_0_1101_0011_1111_000_1_0101 = .instr (.mcrC13 .al 5 3 0 5) ∧
    decode 0b1110_1110_110_0_1110_0011_1111_001_1_0101 = .instr (.mcrC14 .al 6 3 1 5) ∧
    decode 0b1110_1110_111_0_1111_0011_1111_010_1_0101 = .instr (.mcrC15 .al 7 3 2 5) := by decide

/-- c7, c5, 4; c7, c10, 4; c7, c10, 5; and with another opcode1 the same fields are a plain write of c7. -/
theorem test_decode_barriers :
    decode 0b1110_1110_000_0_0111_0000_1111_100_1_0101 = .instr (.prefetchFlush .al 0) ∧
    decode 0b1110_1110_000_0_0111_0001_1111_100_1_1010 = .instr (.dataSyncBarrier .al 1) ∧
    decode 0b1110_1110_000_0_0111_0010_1111_101_1_1010 = .instr (.dataMemBarrier .al 2) ∧
    decode 0b1110_1110_001_0_0111_0000_1111_100_1_0101 = .instr (.mcrC7 .al 1 0 4 5) := by decide

/-- Words that are no CP15 instruction: cp_num 10, cp_num 14, the corner with cp_num 5, a data-processing word. -/
theorem test_decode_others :
    decode 0xEEF03A10 = .coprocessor 10 (some .al) ∧ decode 0xFE000E10 = .coprocessor 14 none ∧
    decode 0xEC000500 = .coprocessorCorner (some .al) ∧
    decode 0xE3A00000 = .rejected .notACoprocessorInstruction := by decide

/-! ### One step -/

/-- The next state, if there is one. -/
def after (o : Host.Outcome State Fault Refusal) : Option State :=
  match o with
  | .next t => some t
  | .fault _ => none
  | .refused _ => none

/-- The refusal, if there is one. -/
def refusal (o : Host.Outcome State Fault Refusal) : Option Refusal :=
  match o with
  | .next _ => none
  | .fault _ => none
  | .refused r => some r

/-- One step of a word placed at the pc. -/
def run (s : State) (w : Nat) : Host.Outcome State Fault Refusal :=
  step (s.withFetchWord 32 w)

/-- The machine after reset, with a value in R0. -/
def with0 (v : Word) : State :=
  State.reset.writeReg 0 v

/-- The machine after reset, in User mode. -/
def user : State :=
  { State.reset with cpsr := 0x10 }

/-- The machine after reset, with Z = 1. -/
def zSet : State :=
  { State.reset with cpsr := 0x400001D3 }

/-- The machine after reset, in an implementation before v6 without CP15. -/
def absent : State :=
  State.resetWith { Cfg.profileT with arch := .preV6, cp15Present := false }

/-- The machine after reset, in an implementation before v6. -/
def old : State :=
  State.resetWith { Cfg.profileT with arch := .preV6 }

/-- The machine after reset, with the given written and effective access rights. -/
def rights (written effective : Word) : State :=
  { State.reset with
    cpacr := written
    cpacrEff := effective }

/-- Section 2.2. -/
theorem test_step_id_registers :
    (after (run .reset 0xEE100F10)).map (·.readReg 0) = some 0x4107B362 ∧
    (after (run .reset 0xEE101F30)).map (·.readReg 1) = some 0x1D152152 ∧
    (after (run .reset 0xEE102F50)).map (·.readReg 2) = some 0x00010001 ∧
    (after (run .reset 0xEE103F70)).map (·.readReg 3) = some 0x00000800 := by decide

theorem test_step_id_reserved :
    (after (run .reset 0xEE104F90)).map (·.readReg 4) = some 0x4107B362 ∧
    (after (run .reset 0xEE105FB0)).map (·.readReg 5) = some 0x4107B362 ∧
    (after (run .reset 0xEE106FD0)).map (·.readReg 6) = some 0x4107B362 ∧
    (after (run .reset 0xEE107FF0)).map (·.readReg 7) = some 0x4107B362 := by decide

theorem test_step_id_refused :
    refusal (run .reset 0xEE100F11) = some .crmNotC0 ∧ refusal (run user 0xEE10FF10) = some .rdIsPc ∧
    refusal (run .reset 0xEE300F10) = some .opcode1Unassigned ∧
    refusal (run .reset 0xEE000F10) = some .idRegisterWrite ∧ refusal (run zSet 0x1E10FF10) = some .rdIsPc := by decide

/-- A failed condition: R0 and all else unchanged, the pc moved. -/
theorem test_step_condition_failed :
    (after (run zSet 0x1E100F10)).map (fun t => (t.readReg 0, t.pc)) = some (0, 4) ∧
    (after (run zSet 0x1E000F00)).map (·.pc) = some 4 := by decide

/-- Section 2.3, rows 2, 4, 5 and 7. -/
theorem test_step_control_write :
    (after (run (with0 0xFFFFFFFF) 0xEE010F10)).map (fun t => (t.cr, t.crEff)) = some (0x03E0FB87, 0) ∧
    (after (run { with0 0 with cr := 0x1002 } 0xEE010F10)).map (·.cr) = some 0 ∧
    (after (run (with0 0x0005107A) 0xEE010F10)).map (·.cr) = some 0x1002 ∧
    (after (run (with0 0x00002000) 0xEE010F10)).map (fun t => (t.cr, t.crEff)) = some (0x2000, 0) := by decide

/-- Section 2.3, rows 11 to 14. -/
theorem test_step_control_refused :
    refusal (run .reset 0xEE110F11) = some .crmNotC0 ∧ refusal (run .reset 0xEE310F10) = some .opcode1Unassigned ∧
    refusal (run .reset 0xEE110F70) = some .controlSelectorReserved ∧
    refusal (run .reset 0xEE010FF0) = some .controlSelectorReserved := by decide

/-- Section 2.3: the masks of profile T. -/
theorem test_control_masks :
    (Cfg.profileT.rwMask, Cfg.profileT.onesMask, Cfg.profileT.unpMask, Cfg.profileT.implMask) =
      (0x03E0FB87, 0x00050078, 0xF8100000, 0x00F00000) := by decide

/-- Section 2.3, row 3: bits 0, 6 and 10 of a read, whatever the UNP bits are. -/
theorem test_step_control_read :
    let s : State := { State.reset with cr := 0x03E0FB87 }
    s.crRead.getLsbD 0 = true ∧ s.crRead.getLsbD 6 = true ∧ s.crRead.getLsbD 10 = false := by
  intro s
  have h0 : s.cfg.unpMask.getLsbD 0 = false := by decide
  have h6 : s.cfg.unpMask.getLsbD 6 = false := by decide
  have h10 : s.cfg.unpMask.getLsbD 10 = false := by decide
  simp only [State.crRead, BitVec.getLsbD_or, BitVec.getLsbD_and, h0, h6, h10, Bool.and_false, Bool.or_false]
  decide

/-- The Auxiliary control register with two control bits. -/
theorem test_step_auxiliary :
    (after (run { with0 0xFF with cfg := { Cfg.profileT with acrWmask := 0x11 } } 0xEE010F30)).map (·.acr) = some 0x11 ∧
    (after (run { State.reset with acr := 0x11 } 0xEE112F30)).map (·.readReg 2) = some 0x11 := by decide

/-- Section 2.4: the implemented coprocessors' fields are stored, 0b10 in one is refused, in another ignored. -/
theorem test_step_access_write :
    (after (run (with0 0xFFFFFFFF) 0xEE010F50)).map (fun t => (t.cpacr, t.cpacrEff)) = some (0x00F00000, 0) ∧
    refusal (run (with0 0x00200000) 0xEE010F50) = some .accessRightsReserved ∧
    (after (run (with0 0x0000000A) 0xEE010F50)).map (·.cpacr) = some 0 := by decide

/-- Section 2.1, the UNDEFINED forms: the pc at the vector, R14_und after the instruction, Undefined mode. -/
theorem test_step_undefined_cdp :
    (after (run .reset 0xEE000F00)).map (fun t => (t.pc, t.regs[29], t.modeBits)) = some (4, 4, 0b11011) ∧
    (after (run user 0xFE000F00)).map (fun t => (t.pc, t.spsr[4], t.modeBits)) = some (4, 0x10, 0b11011) := by decide

theorem test_step_undefined_mcr2 :
    (after (run (with0 0x2000) 0xFE010F10)).map (fun t => (t.pc, t.cr)) = some (4, 0) ∧
    (after (run .reset 0xFE100F10)).map (fun t => (t.pc, t.readReg 0)) = some (4, 0) ∧
    (after (run .reset 0xFC410F0C)).map (·.pc) = some 4 ∧ (after (run .reset 0xFC510F00)).map (·.pc) = some 4 := by decide

theorem test_step_undefined_ldc :
    (after (run .reset 0xED900F00)).map (·.pc) = some 4 ∧ (after (run .reset 0xFD900F00)).map (·.pc) = some 4 ∧
    (after (run .reset 0xED800F00)).map (·.pc) = some 4 ∧ (after (run .reset 0xFD800F00)).map (·.pc) = some 4 ∧
    (after (run .reset 0xEC100F00)).map (·.pc) = some 4 := by decide

/-- The exception in full: profile T, User mode at 0x8000 with V and EE in effect. -/
theorem test_undefined_entry :
    ({ user with pc := 0x8000, crEff := 0x02002000, cr := 0x1000, cpacr := 0xF00000 } : State).takeException
        .undefinedInstruction =
      { user with
        regs := user.regs.set 29 0x8004
        spsr := user.spsr.set 4 0x10
        pc := 0xFFFF0004
        cpsr := 0x29B
        cr := 0x1000
        crEff := 0x1000
        cpacr := 0xF00000
        cpacrEff := 0xF00000
        draws := 1 } := by decide

/-- User mode: reads and writes of the control registers trap, R0 unchanged. -/
theorem test_step_user_traps :
    (after (run user 0xEE100F10)).map (fun t => (t.pc, t.modeBits)) = some (4, 0b11011) ∧
    (after (run user 0xEE010F10)).map (fun t => (t.pc, t.cr)) = some (4, 0) ∧
    (after (run user 0xEC410F0C)).map (·.pc) = some 4 ∧ (after (run user 0xEC510F00)).map (·.pc) = some 4 := by decide

/-- Section 2.5: c2 and c15 go to the default handler, c4 is reserved, c12 and c14 are UNDEFINED. -/
theorem test_step_c2_to_c15_reads :
    refusal (run .reset 0xEE120F10) = some .handlerUnpredictable ∧
    refusal (run .reset 0xEE140F10) = some .register4Reserved ∧ (after (run .reset 0xEE1C0F10)).map (·.pc) = some 4 ∧
    (after (run user 0xEE1F0F10)).map (·.pc) = some 4 := by decide

theorem test_step_c2_to_c15_writes :
    refusal (run .reset 0xEE020F10) = some .handlerUnpredictable ∧
    refusal (run .reset 0xEE040F10) = some .register4Reserved ∧ (after (run .reset 0xEE0E0F10)).map (·.pc) = some 4 ∧
    refusal (run old 0xEE0C0F10) = some .register12Or14BeforeV6 := by decide

/-- MCRR and MRRC: the default handler refuses. -/
theorem test_step_two_registers :
    refusal (run .reset 0xEC410F0C) = some .handlerUnpredictable ∧
    refusal (run .reset 0xEC510F00) = some .handlerUnpredictable ∧ refusal (run .reset 0xEC4F0F0C) = some .rdIsPc := by
  decide

/-- PrefetchFlush in User mode, and the two barriers. -/
theorem test_step_barriers :
    (after (run { user with cr := 0x1002, cpacr := 0xF00000 } 0xEE070F95)).map (fun t => (t.crEff, t.cpacrEff, t.pc)) =
      some (0x1002, 0xF00000, 4) ∧
    (after (run { user with cr := 0x1002 } 0xEE070F9A)).map (fun t => (t.crEff, t.pc)) = some (0, 4) ∧
    (after (run { user with cr := 0x1002 } 0xEE070FBA)).map (fun t => (t.crEff, t.pc)) = some (0, 4) := by decide

/-- CP15 absent: every CP15 word traps, in every mode. -/
theorem test_step_absent :
    (after (run absent 0xEE10FF10)).map (·.pc) = some 4 ∧
    (after (run { absent with cpsr := 0x10 } 0xEE070F95)).map (·.pc) = some 4 ∧
    (after (run { absent with cpsr := 0x40000013 } 0x1E100F10)).map (fun t => (t.pc, t.modeBits)) =
      some (4, 0b10011) := by decide

/-- The access check of coprocessor 10 (section 2.4, section 1.6). -/
theorem test_step_access_check :
    (after (run .reset 0xEEF03A10)).map (·.pc) = some 4 ∧
    refusal (run (rights 0xF00000 0) 0xEEF03A10) = some .accessRightsUnsynchronised ∧
    refusal (run (rights 0x300000 0x300000) 0xEEF03A10) = some .coprocessorGroupUnequal ∧
    refusal (run (rights 0xF00000 0xF00000) 0xEEF03A10) = some (.coprocessorOutsideSpec 10) ∧
    (after (run { rights 0x500000 0x500000 with cpsr := 0x10 } 0xEEF03A10)).map (·.pc) = some 4 := by decide

/-- What stops a step. -/
theorem test_step_stops :
    (match step State.reset with
      | .fault .fetchUnlisted => true
      | _ => false) = true ∧
    (match step { State.reset with pc := 2 } with
      | .fault .fetchUnaligned => true
      | _ => false) = true ∧
    refusal (step { State.reset with cpsr := 0x1F3 }) = some .notArmState := by decide

/-- Reset with the high vectors and a big-endian preset (R47, R48, R270). -/
theorem test_reset_presets :
    (State.resetWith { Cfg.profileT with vReset := true }).pc = 0xFFFF0000 ∧
    (State.resetWith { Cfg.profileT with vReset := true, cfgend := 1 }).cr = 0x2080 ∧
    (State.resetWith { Cfg.profileT with cfgend := 3 }).cpsr = 0x3D3 := by decide

/-- Before v6 B alone is preset (R48): U, EE and CPSR.E stay 0. -/
theorem test_reset_presets_old :
    (State.resetWith { Cfg.profileT with cfgend := 3 }).cr = 0x02400000 ∧
    (State.resetWith { Cfg.profileT with arch := .preV6, cfgend := 3 }).cr = 0 ∧
    (State.resetWith { Cfg.profileT with arch := .preV6, cfgend := 3 }).cpsr = 0x1D3 ∧
    (State.resetWith { Cfg.profileT with arch := .preV6, cfgend := 1 }).cr = 0x80 := by decide

/-- A Cache type register agrees with the L1 caches there are (R165). -/
theorem test_ctr_wf :
    ctrWf .separate 0x1D152152 = true ∧ ctrWf .none 0x1D152152 = false ∧ ctrWf .unified 0x1D152152 = false ∧
    ctrWf .unified 0x1C152152 = true ∧ ctrWf .none 0x1C152152 = false ∧ ctrWf .unified 0x1C152153 = false := by decide

/-- A core that enters the Undefined Instruction handler otherwise than the spec's default (P22). -/
theorem test_other_core :
    (after (run { State.reset with cfg := { Cfg.profileT with coreExc := { CoreExc.generalKnowledge with
        undefinedInstruction := ⟨⟨.supervisor, true, false, true⟩, 8⟩, undefinedInstructionVector := 5 } } }
      0xFE000F00)).map (fun t => (t.pc, t.regs[23], t.spsr[1], t.cpsr)) = some (0x14, 8, 0x1D3, 0x1D3) := by decide

/-- The formats of the Main ID register (section 1.2). -/
theorem test_midr_formats :
    midrFormat 0x41007000 = .arm7 ∧ midrFormat 0x41000000 = .obsolete ∧ midrFormat 0x4107B362 = .postArm7 ∧
    midrFormat 0x69052100 = .postArm7 ∧ midrFormat 0x410FC080 = .revisedCpuid ∧
    midrPartNumber 0x4107B362 = 0xB36 ∧ archCodeOf (midrArchitectureCode 0x4107B362) = some .v6 := by decide

/-- Memory: rising order, and a byte that nothing holds. -/
theorem test_memory :
    (Memory.writeWord [(8, 1)] 2 0x44332211) = [(2, 0x11), (3, 0x22), (4, 0x33), (5, 0x44), (8, 1)] ∧
    Memory.wf [(2, 0), (2, 1)] = false ∧ Memory.readByte [(2, 7)] 3 = none := by decide

/-! ### Witnesses: a state and operands that meet the hypotheses of each statement that has some -/

/-- Every coprocessor 0 to 13 implemented, a handler that serves everything, opcode1 1 and 7 assigned. -/
def served : State :=
  State.resetWith { Cfg.profileT with
    cpImpl := Vector.replicate 14 true
    ext := { opc1Assigned := [1, 7], rules := [], otherwise := .served, resetState := [3] }
    userOps := [.write prefetchFlushAddr, .mcrr 5 14] }

/-- The same in User mode. -/
def servedUser : State :=
  { served with cpsr := 0x10 }

/-- The same in an implementation that gives the F bit a meaning, with F written and not in effect. -/
def unsettled : State :=
  { State.resetWith { served.cfg with fMeaning := .implementationDefined } with cr := 0x400 }

/-- A handler with one rule at every entry point. -/
def ruled (r : ExtRule) : State :=
  State.resetWith { Cfg.profileT with ext := { opc1Assigned := [], rules := [], otherwise := r, resetState := [] } }

theorem reaches_reset : Reaches .al State.reset := ⟨by decide, by decide, by decide⟩

theorem reaches_served : Reaches .al served := ⟨by decide, by decide, by decide⟩

theorem done_served (call : ExtCall) : HandlerDone served call :=
  .inr (.inl ⟨rfl, by decide⟩)

theorem inv_reset : State.reset.Inv :=
  ⟨by decide, by decide, by decide, by decide, by decide, by decide, by decide, by decide, by decide, by decide,
    by decide, by decide⟩

theorem witness_DecodeOfEncode :
    (Instr.mrc .al 7 1 14 7 15).wellFormed = true ∧ (Instr.stc2 0 0 1 1 15 15 255).wellFormed = true := by decide

theorem witness_EncodeOfDecode : decode 0xEE100F10 = .instr (.mrcMidr .al 0) := by decide

theorem witness_Cp15WordsClassified : decode 0xFC000F00 = .instr (.ldcStcCorner none 0 0 0 0) := by decide

/-- The reset state with a word placed, and the four kinds of word. -/
theorem witness_StepRunsDecodedWord :
    let s := State.reset.withFetchWord 32 0xEE100F10
    (s.thumb = false ∧ s.pc.toNat % 4 = 0 ∧ s.mem.readByte 0 = some 0x10 ∧ s.mem.readByte 1 = some 0x0F ∧
      s.mem.readByte 2 = some 0x10 ∧ s.mem.readByte 3 = some 0xEE) ∧
    decode (0xEE#8 ++ 0x10#8 ++ 0x0F#8 ++ 0x10#8) = .instr (.mrcMidr .al 0) ∧
    decode (0xEE#8 ++ 0xF0#8 ++ 0x3A#8 ++ 0x10#8) = .coprocessor 10 (some .al) ∧
    decode (0xEC#8 ++ 0x00#8 ++ 0x05#8 ++ 0x00#8) = .coprocessorCorner (some .al) ∧
    decode (0xE3#8 ++ 0xA0#8 ++ 0x00#8 ++ 0x00#8) = .rejected .notACoprocessorInstruction := by decide

theorem witness_PlacedWordRuns :
    State.reset.thumb = false ∧ State.reset.pc.toNat % 4 = 0 ∧
    decodeTableWord 32 0xFE010F10 = some (.mcr2 0 1 0 0 0) := by decide

/-- opcode2 0, 4 and 7, and CRm 1 and 15. -/
theorem witness_IdRegisterReads :
    (mrcForm (.mrcMidr .al 0) = some (.al, 0, ⟨0, 0, 0, 0⟩) ∧ mrcForm (.mrcMpuir .al 14) = some (.al, 14, ⟨0, 0, 0, 4⟩) ∧
      mrcForm (.mrcId7 .al 7) = some (.al, 7, ⟨0, 0, 0, 7⟩)) ∧ Reaches .al State.reset ∧
    mrcForm (.mrc .al 0 0 3 0 1) = some (.al, 3, ⟨0, 0, 1, 0⟩) ∧
    mrcForm (.mrc .al 0 0 3 7 15) = some (.al, 3, ⟨0, 0, 15, 7⟩) ∧ State.reset.cfg.cp15Absent = false :=
  ⟨by decide, reaches_reset, by decide, by decide, by decide⟩

theorem witness_IdPresenceDetectable : State.reset.cfg.wf = true ∧ (14 : BitVec 4) ≠ 15 ∧ Reaches .al State.reset :=
  ⟨by decide, by decide, reaches_reset⟩

/-- Both visibilities. -/
theorem witness_ControlRegister :
    (0 : BitVec 4) ≠ 15 ∧ Reaches .al State.reset ∧ State.reset.cfg.crVisibility = .afterFlush ∧
    Reaches .al (State.resetWith { Cfg.profileT with crVisibility := .immediate }) :=
  ⟨by decide, reaches_reset, by decide, by decide, by decide, by decide⟩

theorem witness_ControlReadModifyWrite : (0 : BitVec 4) ≠ 15 ∧ Reaches .al State.reset ∧ State.reset.Inv :=
  ⟨by decide, reaches_reset, inv_reset⟩

theorem witness_AuxiliaryControl :
    (0 : BitVec 4) ≠ 15 ∧ Reaches .al State.reset ∧ State.reset.cfg.acrWmask = 0 ∧ State.reset.Inv :=
  ⟨by decide, reaches_reset, by decide, inv_reset⟩

/-- 0b10 written for coprocessor 0 and for coprocessor 13, and a value that writes it for none. -/
theorem witness_AccessRegister :
    Reaches .al served ∧
    (served.cfg.cpImplAt 0 = true ∧ accessRights ((served.writeReg 1 0x00000002).readReg 1) 0 = 0b10) ∧
    (served.cfg.cpImplAt 13 = true ∧ accessRights ((served.writeReg 1 0x08000000).readReg 1) 13 = 0b10) ∧
    (∀ n < 14, served.cfg.cpImplAt n = true → accessRights (served.readReg 1) n ≠ 0b10) :=
  ⟨reaches_served, by decide, by decide, by decide⟩

theorem witness_AutoConfiguration :
    let s := served.writeReg 14 0xFFFFFFFF
    (14 : BitVec 4) ≠ 15 ∧ Reaches .al s ∧ s.readReg 14 = 0xFFFFFFFF :=
  ⟨by decide, ⟨by decide, by decide, by decide⟩, by decide⟩

/-- opcode2 3 read and 7 written. -/
theorem witness_ReservedSelectorRefused :
    mrcForm (.mrc .eq 0 1 0 3 0) = some (.eq, 0, ⟨0, 1, 0, 3⟩) ∧ mcrForm (.mcr .al 0 1 14 7 0) = some (.al, 14, ⟨0, 1, 0, 7⟩) ∧
    State.reset.cfg.cp15Absent = false := by decide

/-- A legal read and a legal write. -/
theorem legal_read : EncodingLegal State.reset.cfg .read 14 ⟨0, 1, 0, 2⟩ :=
  ⟨by decide, by decide, by decide, by decide, by decide, by decide, by decide⟩

theorem legal_write : EncodingLegal State.reset.cfg .write 0 ⟨0, 15, 15, 7⟩ :=
  ⟨by decide, by decide, by decide, by decide, by decide, by decide, by decide⟩

/-- Each way to meet it, with EQ where Z is 0. -/
theorem witness_FailedConditionOnlyAdvances :
    condPassed .eq State.reset = false ∧
    (instrCond (.ldcStcCorner (some .eq) 0 0 0 0) = some .eq ∧
      (instrClass (.ldcStcCorner (some .eq) 0 0 0 0)).isUndefined = true) ∧
    absent.cfg.cp15Absent = true ∧
    (mrcForm (.mrcCpacr .eq 14) = some (.eq, 14, ⟨0, 1, 0, 2⟩) ∧ EncodingLegal State.reset.cfg .read 14 ⟨0, 1, 0, 2⟩) ∧
    (mcrForm (.mcrC15 .eq 0 0 7 15) = some (.eq, 0, ⟨0, 15, 15, 7⟩) ∧
      EncodingLegal State.reset.cfg .write 0 ⟨0, 15, 15, 7⟩) ∧
    instrCond (.mrrc .eq 14 14 0 0) = some .eq ∧ instrCond (.mcrr .eq 14 0 0 0) = some .eq :=
  ⟨by decide, by decide, by decide, ⟨by decide, legal_read⟩, ⟨by decide, legal_write⟩, by decide, by decide⟩

theorem witness_UserModeReadsTrap :
    user.inUserMode = true ∧ condPassed .al user = true ∧
    mrcForm (.mrcCpacr .al 14) = some (.al, 14, ⟨0, 1, 0, 2⟩) ∧ EncodingLegal user.cfg .read 14 ⟨0, 1, 0, 2⟩ :=
  ⟨by decide, by decide, by decide, legal_read⟩

/-- From v6 a write outside the list, and before v6 a barrier. -/
theorem witness_UserModeWritesTrap :
    user.inUserMode = true ∧ condPassed .al user = true ∧
    (mcrForm (.mcrC15 .al 0 0 7 15) = some (.al, 0, ⟨0, 15, 15, 7⟩) ∧
      EncodingLegal user.cfg .write 0 ⟨0, 15, 15, 7⟩ ∧ ExtTarget.write ⟨0, 15, 15, 7⟩ ∉ user.cfg.userOps) ∧
    (mcrForm (.prefetchFlush .al 0) = some (.al, 0, ⟨0, 7, 5, 4⟩) ∧
      EncodingLegal old.cfg .write 0 ⟨0, 7, 5, 4⟩ ∧ old.cfg.arch = .preV6) ∧
    ExtTarget.mcrr 0 12 ∉ user.cfg.userOps :=
  ⟨by decide, by decide, ⟨by decide, legal_write, by decide⟩,
    ⟨by decide, ⟨by decide, by decide, by decide, by decide, by decide, by decide, by decide⟩, by decide⟩, by decide⟩

theorem witness_UndefinedFormsTrap :
    (instrClass (.mrrc2 0 0 0 0)).isUndefined = true ∧ instrCond (.mrrc2 0 0 0 0) = none ∧
    (instrClass (.cdp .al 0 0 0 0 0)).isUndefined = true ∧ instrCond (.cdp .al 0 0 0 0 0) = some .al ∧
    condPassed .al State.reset = true := by decide

theorem witness_Registers12And14 :
    mrcForm (.mrcC12 .al 0 14 7 15) = some (.al, 14, ⟨0, 12, 15, 7⟩) ∧
    mcrForm (.mcrC14 .al 0 0 0 0) = some (.al, 0, ⟨0, 14, 0, 0⟩) ∧
    (user.cfg.arch = .v6 ∧ condPassed .al user = true) ∧ old.cfg.arch = .preV6 ∧ old.cfg.cp15Absent = false := by decide

/-- Each clause but two. -/
theorem witness_UnpredictableEncodingsRefused :
    State.reset.cfg.cp15Absent = false ∧
    mrcForm (.mrcMidr .al 15) = some (.al, 15, ⟨0, 0, 0, 0⟩) ∧
    (mrcForm (.mrcC2 .al 1 0 0 0) = some (.al, 0, ⟨1, 2, 0, 0⟩) ∧ 1#3 ∉ State.reset.cfg.ext.opc1Assigned) ∧
    (mrcForm (.mrcC2 .al 7 0 0 0) = some (.al, 0, ⟨7, 2, 0, 0⟩) ∧ 7#3 ∉ State.reset.cfg.ext.opc1Assigned) ∧
    mcrForm (.mcr .al 0 1 0 0 1) = some (.al, 0, ⟨0, 1, 1, 0⟩) ∧
    mrcForm (.mrcC4 .al 0 14 7 15) = some (.al, 14, ⟨0, 4, 15, 7⟩) ∧
    mrcForm (.mrc .al 0 0 0 0 15) = some (.al, 0, ⟨0, 0, 15, 0⟩) ∧
    mcrForm (.mcr .al 0 0 0 0 0) = some (.al, 0, ⟨0, 0, 0, 0⟩) := by decide

/-- The clauses of the reserved selectors and of primary registers 12 and 14 before v6. -/
theorem witness_UnpredictableEncodingsRefused_reserved :
    (mrcForm (.mrc .al 0 1 0 3 0) = some (.al, 0, ⟨0, 1, 0, 3⟩) ∧ mcrForm (.mcr .al 0 1 0 7 0) = some (.al, 0, ⟨0, 1, 0, 7⟩)) ∧
    (mrcForm (.mrcC12 .al 0 14 7 15) = some (.al, 14, ⟨0, 12, 15, 7⟩) ∧
      mcrForm (.mcrC14 .al 0 0 0 0) = some (.al, 0, ⟨0, 14, 0, 0⟩) ∧
      old.cfg.arch = .preV6 ∧ old.cfg.cp15Absent = false) := by decide

theorem witness_Cp15AbsentTraps :
    absent.cfg.arch = .preV6 ∧ absent.cfg.cp15Present = false ∧ instrCond (.mrcMidr .al 15) = some .al ∧
    condPassed .al absent = true ∧ instrCond (.prefetchFlush .eq 0) = some .eq ∧ condPassed .eq absent = false := by decide

/-- opcode1 1 and 7 with any CRn, opcode1 0 with CRn 2 and 15. -/
theorem witness_HandlerReadsComplete :
    Reaches .al served ∧
    (mrcForm (.mrc .al 1 0 14 0 0) = some (.al, 14, ⟨1, 0, 0, 0⟩) ∧ ToHandler served.cfg ⟨1, 0, 0, 0⟩ ∧
      HandlerDone served ⟨.read ⟨1, 0, 0, 0⟩, 0, 0⟩) ∧
    (mrcForm (.mrcC4 .al 7 0 7 15) = some (.al, 0, ⟨7, 4, 15, 7⟩) ∧ ToHandler served.cfg ⟨7, 4, 15, 7⟩) ∧
    (mrcForm (.mrcC2 .al 0 0 0 0) = some (.al, 0, ⟨0, 2, 0, 0⟩) ∧ ToHandler served.cfg ⟨0, 2, 0, 0⟩) ∧
    (mrcForm (.mrcC15 .al 0 0 0 0) = some (.al, 0, ⟨0, 15, 0, 0⟩) ∧ ToHandler served.cfg ⟨0, 15, 0, 0⟩) :=
  ⟨reaches_served, ⟨by decide, .inl (by decide), done_served _⟩, ⟨by decide, .inl (by decide)⟩,
    ⟨by decide, .inr (by decide)⟩, ⟨by decide, .inr (by decide)⟩⟩

/-- The same registers written, a barrier in User mode, and the three ways to serve a call. -/
theorem witness_HandlerWritesComplete :
    (mcrForm (.mcr .al 1 0 14 0 0) = some (.al, 14, ⟨1, 0, 0, 0⟩) ∧ ToHandler served.cfg ⟨1, 0, 0, 0⟩ ∧
      ReachesAs (.write ⟨1, 0, 0, 0⟩) .al served ∧ HandlerDone served ⟨.write ⟨1, 0, 0, 0⟩, served.readReg 14, 0⟩) ∧
    (mcrForm (.mcrC15 .al 0 0 0 0) = some (.al, 0, ⟨0, 15, 0, 0⟩) ∧ ToHandler served.cfg ⟨0, 15, 0, 0⟩) ∧
    (mcrForm (.prefetchFlush .al 0) = some (.al, 0, ⟨0, 7, 5, 4⟩) ∧ ToHandler user.cfg ⟨0, 7, 5, 4⟩ ∧
      ReachesAs (.write ⟨0, 7, 5, 4⟩) .al user ∧ HandlerDone user ⟨.write ⟨0, 7, 5, 4⟩, 0, 0⟩) ∧
    (ToHandler user.cfg ⟨0, 7, 10, 5⟩ ∧ HandlerDone user ⟨.write ⟨0, 7, 10, 5⟩, 0, 0⟩) :=
  ⟨⟨by decide, .inl (by decide), ⟨by decide, by decide, by decide⟩, done_served _⟩, ⟨by decide, .inr (by decide)⟩,
    ⟨by decide, .inr (by decide), ⟨by decide, by decide, by decide⟩, .inl (by decide)⟩, .inr (by decide),
    .inl (by decide)⟩

/-- In User mode, by an operation of the list. -/
theorem witness_TwoRegisterWritesComplete :
    servedUser.inUserMode = true ∧ ReachesAs (.mcrr 5 14) .al servedUser ∧
    HandlerDone servedUser ⟨.mcrr 5 14, servedUser.readReg 0, servedUser.readReg 14⟩ :=
  ⟨by decide, ⟨by decide, by decide, by decide⟩, .inr (.inl ⟨rfl, by decide⟩)⟩

theorem witness_TwoRegisterReadsComplete :
    (0 : BitVec 4) ≠ 15 ∧ (14 : BitVec 4) ≠ 15 ∧ (0 : BitVec 4) ≠ 14 ∧ Reaches .al served ∧
    HandlerDone served ⟨.mrrc 15 15, 0, 0⟩ :=
  ⟨by decide, by decide, by decide, reaches_served, done_served _⟩

theorem witness_HandlerTurnsAway :
    Reaches .al (ruled .undefined) ∧ Reaches .al (ruled .unpredictable) ∧
    ToHandler (ruled .undefined).cfg ⟨0, 2, 0, 0⟩ ∧ ToHandler (ruled .unpredictable).cfg ⟨0, 15, 15, 7⟩ ∧
    (∀ call, HandlerUndefined (ruled .undefined) call) ∧ (∀ call, HandlerUnpredictable (ruled .unpredictable) call) ∧
    (∀ target, ReachesAs target .al (ruled .undefined) ∧ ReachesAs target .al (ruled .unpredictable)) ∧
    (Reaches .al unsettled ∧ ∀ call, HandlerUnsettled unsettled call) :=
  ⟨⟨by decide, by decide, by decide⟩, ⟨by decide, by decide, by decide⟩, .inr (by decide), .inr (by decide),
    fun _ => .inl rfl, fun _ => .inl rfl,
    fun _ => ⟨⟨by decide, by decide, fun h => absurd h (by decide)⟩, ⟨by decide, by decide, fun h => absurd h (by decide)⟩⟩,
    ⟨⟨by decide, by decide, by decide⟩, fun _ => ⟨.head _, by decide⟩⟩⟩

/-- In User mode and in a privileged one. -/
theorem witness_PrefetchFlushCompletes :
    ReachesAs (.write ⟨0, 7, 5, 4⟩) .al user ∧ ReachesAs (.write ⟨0, 7, 5, 4⟩) .al State.reset ∧
    user.cfg.extRule (.write ⟨0, 7, 5, 4⟩) = .prefetchFlush :=
  ⟨⟨by decide, by decide, by decide⟩, ⟨by decide, by decide, by decide⟩, by decide⟩

theorem witness_BarriersOnlyAdvance :
    ReachesAs (.write ⟨0, 7, 10, 4⟩) .al user ∧ user.cfg.extRule (.write ⟨0, 7, 10, 4⟩) = .noEffect ∧
    ReachesAs (.write ⟨0, 7, 10, 5⟩) .al user ∧ user.cfg.extRule (.write ⟨0, 7, 10, 5⟩) = .noEffect :=
  ⟨⟨by decide, by decide, by decide⟩, by decide, ⟨by decide, by decide, by decide⟩, by decide⟩

theorem witness_SynchronisingEvents :
    (after (exec (.prefetchFlush .al 14) user)).isSome = true ∧ (after (State.reset.exceptionReturn 0)).isSome = true := by
  decide

/-- Each outcome, of coprocessors 0 and 13, and of the group of 10 and 11. -/
theorem witness_CoprocessorAccessCheck :
    condFieldPassed none State.reset = true ∧
    accessRights (rights 0x1 0).cpacr 0 ≠ accessRights (rights 0x1 0).cpacrEff 0 ∧
    accessRights (rights 0x300000 0x300000).cpacrEff 10 ≠ accessRights (rights 0x300000 0x300000).cpacrEff 11 ∧
    accessRights (rights 0 0).cpacrEff 13 = 0b00 ∧ accessRights (rights 0x1 0x1).cpacrEff 0 = 0b01 ∧
    accessRights (rights 0x0C000000 0x0C000000).cpacrEff 13 = 0b11 ∧
    accessRights (rights 0x2 0x2).cpacrEff 0 = 0b10 ∧
    condFieldPassed (some .eq) State.reset = false ∧ condFieldPassed (some .al) State.reset = true := by decide

theorem witness_AccessDeniedAfterReset :
    condFieldPassed (some .al) State.reset = true ∧ State.reset.cpacr = 0 ∧ State.reset.cpacrEff = 0 := by decide

theorem witness_ExceptionVectors :
    State.reset.crEff.getLsbD 24 = false ∧ State.reset.cfg.coreExc = .generalKnowledge := by decide

/-- The default core, for the statements that write its entries out. -/
theorem witness_ResetCoreState : Cfg.profileT.coreExc = .generalKnowledge := by decide

/-- From User mode by Undefined Instruction and by a Data Abort, at both ends of the address space. -/
theorem witness_ReturnUndoesEntry :
    user.cfg.coreExc.returnMask = 0xFFFFFFFF ∧
    (user.modeBits ≠ (user.entry .undefinedInstruction).mode.bits ∧ user.modeBits ≠ (user.entry (.dataAbort 1)).mode.bits) ∧
    user.pc.toNat + (user.entry .undefinedInstruction).linkOffset < 2 ^ 32 ∧
    ({ user with pc := 0xFFFFFFF4 } : State).pc.toNat + (user.entry (.dataAbort 1)).linkOffset < 2 ^ 32 := by decide

/-- A word that runs in every mode. -/
theorem witness_StepKeepsInvariant :
    (State.reset.withFetchWord 32 0xFE000F00).Inv ∧
    (after (step (State.reset.withFetchWord 32 0xFE000F00))).isSome = true :=
  ⟨⟨by decide, by decide, by decide, by decide, by decide, by decide, by decide, by decide, by decide, by decide,
    by decide, by decide⟩, by decide⟩

theorem witness_UserModeCannotTouchControl :
    user.cfg.wf = true ∧ (user.withFetchWord 32 0xEE070F95).inUserMode = true ∧
    (after (step (user.withFetchWord 32 0xEE070F95))).isSome = true := by decide

/-- Bits that mean nothing to the implementation, and bits that do and are kept. -/
theorem witness_UserModeCannotLearnControl :
    user.cfg.acrMeaning = .noEffect ∧ user.cfg.fMeaning = .noEffect ∧
    unsettled.cfg.fMeaning = .implementationDefined ∧ (0x401 : Word).getLsbD 10 = unsettled.cr.getLsbD 10 := by decide

/-- A step that changes each of the three registers. -/
theorem witness_ControlChangesOnlyByMcr :
    (after (run (with0 0x1002) 0xEE010F10)).map (·.cr) = some 0x1002 ∧
    (after (run { with0 1 with cfg := { Cfg.profileT with acrWmask := 1 } } 0xEE010F30)).map (·.acr) = some 1 ∧
    (after (run (with0 0x00F00000) 0xEE010F50)).map (·.cpacr) = some 0x00F00000 := by decide

/-- Any step: the statements over every step that answers a next state. -/
theorem witness_step : (after (run State.reset 0xEE070F9A)).isSome = true ∧ State.reset.pc.toNat + 4 < 2 ^ 32 := by decide

/-- The top and the bottom of the address space. -/
theorem witness_MemoryReadsAsWritten :
    Memory.wf [] = true ∧ 0 + 3 < 2 ^ 32 ∧ 0xFFFFFFFC + 3 < 2 ^ 32 ∧ (Memory.writeWord [] 0xFFFFFFFC 1).wf = true := by
  decide

/-- One register of each kind, seen from two modes. -/
theorem witness_RegisterBanks :
    legalMode State.reset.modeBits = true ∧ legalMode user.modeBits = true ∧
    ((State.reset.writeReg 12 5).regs = (State.reset.writeReg 12 5).regs) ∧ (14 : BitVec 4) ≠ 15 := by decide

/-- A verdict on a data access without the state after it. -/
def verdict (v : Except Refusal AccessVerdict) : Option (Option Word) :=
  match v with
  | .error _ => none
  | .ok (.dataAbort t) => some (some t.pc)
  | .ok _ => some none

/-- The reset state with the given written and effective Control register. -/
def control (written effective : Word) : State :=
  { State.reset with
    cr := written
    crEff := effective }

/-- Each clause, of 2, 4 and 8 bytes: aligned; A not in effect; A = 1 in effect, with U in effect and not; U not in effect;
U = 1; U = 0, load and store. -/
theorem witness_DataAlignment :
    State.reset.dataAccess .store 8 8 = .ok .aligned ∧
    (control 0x2 0).dataAccess .load 1 2 = .error .controlBitUnsynchronised ∧
    verdict ((control 0x2 0x2).dataAccess .load 1 2) = some (some 0x10) ∧
    verdict ((control 0x400002 0x2).dataAccess .store 7 8) = some (some 0x10) ∧
    (control 0x400000 0).dataAccess .load 6 4 = .error .controlBitUnsynchronised ∧
    (control 0x400000 0x400000).dataAccess .store 7 8 = .ok .unalignedPermitted ∧
    State.reset.dataAccess .load 6 4 = .ok .rotatedLoad ∧
    State.reset.dataAccess .store 7 8 = .ok .notStated := by decide

/-- Each clause: L4 not in effect, L4 = 1, L4 = 0 with both values of bit 0. -/
theorem witness_ThumbInterworking :
    (control 0x8000 0).thumbAfterPcLoad 1 = .error .controlBitUnsynchronised ∧
    (control 0x8000 0x8000).thumbAfterPcLoad 1 = .ok false ∧
    State.reset.thumbAfterPcLoad 1 = .ok true ∧ State.reset.thumbAfterPcLoad 2 = .ok false := by decide

/-- Masked and not masked, with VE = 0, for each interrupt. -/
theorem witness_InterruptMoves :
    State.reset.raiseIrq = State.reset ∧ State.reset.raiseFiq = State.reset ∧
    (user.cpsr.getLsbD 7 = false ∧ user.raiseIrq.pc = 0x18 ∧ user.raiseIrq.modeBits = 0b10010) ∧
    (user.cpsr.getLsbD 6 = false ∧ user.raiseFiq.pc = 0x1C ∧ user.raiseFiq.modeBits = 0b10001) ∧
    user.crEff.getLsbD 24 = false ∧ user.cfg.coreExc = .generalKnowledge := by decide

end Sys2Proof.Tests
end

section
/-! PROOFS. What every step does and keeps: it raises Undefined Instruction, or completes and moves the pc on; and the
invariant, operation by operation. -/

namespace Sys2Proof.Machine

open Sys2Proof

/-! ### What a completed instruction does, and the exception -/

/-- What an instruction that completes does before the pc moves on. -/
inductive Completes (s : State) : State → Prop where
  | nothing : Completes s s
  | movesExt (call : ExtCall) : Completes s (s.moveExt call)
  | synchronises : Completes s s.synchronise
  | writesControl (v : Word) : Completes s (s.crWrite v)
  | writesAuxiliary (v : Word) : Completes s (s.acrWrite v)
  | writesAccess (v : Word) (rights : hasReservedRights (v &&& s.cfg.implMask) = false) : Completes s (s.cpacrWrite v)
  | writesReg (u : State) (rd : BitVec 4) (v : Word) (before : Completes s u) : Completes s (u.writeReg rd v)

theorem completes_of_extAnswer {call : ExtCall} {s s' : State} (h : extAnswer call s = .done s') : Completes s s' := by
  rcases extAnswer_done h with rfl | rfl | rfl
  · exact .nothing
  · exact .movesExt call
  · exact .synchronises

theorem Completes.writesRegPair {s u : State} (h : Completes s u) (rd rn : BitVec 4) (v1 v2 : Word) :
    Completes s (u.writeRegPair rd rn v1 v2) := by
  rcases u.writeRegPair_cases rd rn v1 v2 with ⟨v, e⟩ | e <;> rw [e]
  · exact .writesReg u rd v h
  · exact .writesReg _ rn v2 (.writesReg u rd v1 h)

/-- A step raises Undefined Instruction, or completes and moves the pc on. -/
theorem step_next_completes {s t : State} (h : step s = .next t) :
    t = s.takeException .undefinedInstruction ∨ ∃ u, Completes s u ∧ t = u.advance := by
  cases step_next h with
  | traps => exact .inl rfl
  | passes => exact .inr ⟨_, .nothing, rfl⟩
  | reads rd v => exact .inr ⟨_, .writesReg s rd v .nothing, rfl⟩
  | handlerReads rd v a s' _ done => exact .inr ⟨_, .writesReg s' rd v (completes_of_extAnswer done), rfl⟩
  | handlerReadsPair rd rn op crm v1 v2 s' _ done =>
    exact .inr ⟨_, (completes_of_extAnswer done).writesRegPair rd rn v1 v2, rfl⟩
  | writesControl v => exact .inr ⟨_, .writesControl v, rfl⟩
  | writesAuxiliary v => exact .inr ⟨_, .writesAuxiliary v, rfl⟩
  | writesAccess v rights => exact .inr ⟨_, .writesAccess v rights, rfl⟩
  | handlerWrites a v s' _ _ done => exact .inr ⟨_, completes_of_extAnswer done, rfl⟩
  | handlerWritesPair op crm v1 v2 s' _ done => exact .inr ⟨_, completes_of_extAnswer done, rfl⟩

/-- No instruction that completes writes a constant, memory, the status or a saved status, or the pc before it moves on. -/
theorem Completes.same {s u : State} (h : Completes s u) :
    u.cfg = s.cfg ∧ u.mem = s.mem ∧ u.cpsr = s.cpsr ∧ u.spsr = s.spsr ∧ u.pc = s.pc := by
  induction h with
  | writesReg u rd v before ih => exact ih
  | nothing | movesExt | synchronises | writesControl | writesAuxiliary | writesAccess => exact ⟨rfl, rfl, rfl, rfl, rfl⟩

/-! ### The invariant, operation by operation -/

theorem State.Inv.advance {s : State} (h : s.Inv) : s.advance.Inv :=
  { h with aligned := addressAfter_aligned h.aligned rfl _ }

theorem State.Inv.takeException {s : State} (h : s.Inv) (e : Exc) : (s.takeException e).Inv :=
  { h with
    crEff := h.cr
    cpacrEff := h.cpacr
    rightsEff := h.rights
    immediate := fun _ => rfl
    aligned := s.vector_aligned e
    mode := by rw [State.modeBits_takeException]; exact ExcMode.bits_legal _
    arm := s.thumb_takeException e }

theorem State.Inv.synchronise {s : State} (h : s.Inv) : s.synchronise.Inv :=
  { h with
    crEff := h.cr
    cpacrEff := h.cpacr
    rightsEff := h.rights
    immediate := fun _ => rfl }

theorem State.Inv.crWrite {s : State} (h : s.Inv) (v : Word) : (s.crWrite v).Inv :=
  { h with
    cr := masked_outside v s.cfg.rwMask
    crEff := by
      rw [State.crWrite_crEff]
      split
      · exact masked_outside v s.cfg.rwMask
      · exact h.crEff
    immediate := fun hv => by
      have hv : s.cfg.crVisibility = .immediate := hv
      simp [hv] }

theorem State.Inv.acrWrite {s : State} (h : s.Inv) (v : Word) : (s.acrWrite v).Inv :=
  { h with acr := masked_outside v s.cfg.acrWmask }

theorem State.Inv.cpacrWrite {s : State} (h : s.Inv) {v : Word}
    (rights : hasReservedRights (v &&& s.cfg.implMask) = false) : (s.cpacrWrite v).Inv :=
  { h with
    cpacr := masked_outside v s.cfg.implMask
    rights := rights }

theorem Completes.keepsInv {s u : State} (h : Completes s u) (hs : s.Inv) : u.Inv := by
  induction h with
  | nothing => exact hs
  | movesExt call => exact { hs with }
  | synchronises => exact hs.synchronise
  | writesControl v => exact hs.crWrite v
  | writesAuxiliary v => exact hs.acrWrite v
  | writesAccess v rights => exact hs.cpacrWrite rights
  | writesReg u rd v _ ih => exact { ih with }

/-- Settles O43: the exception keeps the invariant, and so do every operation of an instruction that completes and the move
of the pc. -/
theorem stepKeepsInvariant : Obligations.StepKeepsInvariant := by
  intro s t hs hstep
  rcases step_next_completes hstep with rfl | ⟨u, hu, rfl⟩
  · exact hs.takeException _
  · exact (hu.keepsInv hs).advance

theorem accessRights_zero (n : Nat) : accessRights 0 n = 0b00 := by
  apply BitVec.eq_of_getLsbD_eq
  simp [accessRights]

theorem hasReservedRights_zero : hasReservedRights 0 = false := by
  decide

/-- Settles O42. -/
theorem resetMeetsInvariant : Obligations.ResetMeetsInvariant := fun cfg =>
  { memory := rfl
    cr := masked_outside _ _
    crEff := masked_outside _ _
    acr := masked_outside _ _
    cpacr := BitVec.zero_and
    cpacrEff := BitVec.zero_and
    rights := hasReservedRights_zero
    rightsEff := hasReservedRights_zero
    immediate := fun _ => rfl
    aligned := vectorRange_add_aligned _ _
    mode := by
      show legalMode (cfg.resetCpsr.extractLsb' 0 5) = true
      rw [Cfg.resetCpsr, entryStatus_mode]
      exact ExcMode.bits_legal _
    arm := entryStatus_getLsbD _ _ _ 5 }

/-! ### What every step leaves -/

/-- Settles O47. -/
theorem stepKeepsMemoryAndConstants : Obligations.StepKeepsMemoryAndConstants := by
  intro s t hstep
  rcases step_next_completes hstep with rfl | ⟨u, hu, rfl⟩
  · exact ⟨rfl, fun _ => rfl⟩
  · obtain ⟨hcfg, hmem, -⟩ := hu.same
    exact ⟨hcfg, fun a => congrArg (Memory.readByte · a) hmem⟩

/-- CPSR[31:28] is part of what an exception entry does not write. -/
theorem flags_of_rest {c d : Word} (h : c.extractLsb' 10 22 = d.extractLsb' 10 22) :
    c.extractLsb' 28 4 = d.extractLsb' 28 4 := by
  apply BitVec.eq_of_getLsbD_eq
  intro i hi
  have hbit := congrArg (fun w : BitVec 22 => w.getLsbD (18 + i)) h
  simpa only [BitVec.getLsbD_extractLsb', hi, show 18 + i < 22 by omega, show 10 + (18 + i) = 28 + i by omega,
    decide_true, Bool.true_and] using hbit

/-- Settles O48: only the exception writes the status, and it keeps CPSR[31:10]. -/
theorem statusChangesOnlyByException : Obligations.StatusChangesOnlyByException := by
  intro s t hstep
  rcases step_next_completes hstep with rfl | ⟨u, hu, rfl⟩
  · have henters := entersUndefined_takeException s
    exact ⟨flags_of_rest henters.rest, .inr henters⟩
  · obtain ⟨-, -, hcpsr, hspsr, -⟩ := hu.same
    exact ⟨congrArg (BitVec.extractLsb' 28 4) hcpsr, .inl ⟨hcpsr, fun k => congrArg (·[k]) hspsr⟩⟩

theorem Completes.copiesCatchUp {s u : State} (h : Completes s u) :
    (u.crEff = s.crEff ∨ u.crEff = u.cr) ∧ (u.cpacrEff = s.cpacrEff ∨ u.cpacrEff = u.cpacr) := by
  induction h with
  | nothing | movesExt | writesAuxiliary | writesAccess => exact ⟨.inl rfl, .inl rfl⟩
  | synchronises => exact ⟨.inr rfl, .inr rfl⟩
  | writesControl v =>
    refine ⟨?_, .inl rfl⟩
    rw [State.crWrite_crEff]
    split
    · exact .inr rfl
    · exact .inl rfl
  | writesReg u rd v _ ih => exact ih

/-- Settles O49. -/
theorem effectiveCopiesOnlyCatchUp : Obligations.EffectiveCopiesOnlyCatchUp := by
  intro s t hstep
  rcases step_next_completes hstep with rfl | ⟨u, hu, rfl⟩
  · exact ⟨.inr rfl, .inr rfl⟩
  · exact hu.copiesCatchUp

/-- Moving on from a state whose pc has not moved moves the pc to the next word. -/
theorem advanced_advance {s u : State} (h : u.pc = s.pc) : Advanced s u.advance := by
  intro hlt
  rw [State.advance_pc, h]
  exact addressAfter_of_lt hlt _

/-- Settles O50. -/
theorem stepMovesPc : Obligations.StepMovesPc := by
  intro s t hstep hlt
  rcases step_next_completes hstep with rfl | ⟨u, hu, rfl⟩
  · exact .inr (entersUndefined_takeException s).vector
  · obtain ⟨-, -, -, -, hpc⟩ := hu.same
    exact .inl (advanced_advance hpc hlt)

/-- Settles O57: the pc a step fetches from is word-aligned, and so are the next word's address and every vector. -/
theorem stepLeavesPcAligned : Obligations.StepLeavesPcAligned := by
  intro s t hstep
  obtain ⟨-, haligned, -⟩ := step_next_fetch hstep
  rcases step_next_completes hstep with rfl | ⟨u, hu, rfl⟩
  · exact s.vector_aligned _
  · obtain ⟨-, -, -, -, hpc⟩ := hu.same
    exact addressAfter_aligned (hpc ▸ haligned) rfl _

/-- Settles O5. -/
theorem stepRunsDecodedWord : Obligations.StepRunsDecodedWord := by
  intro s b0 b1 b2 b3 harm haligned h0 h1 h2 h3
  have hword : s.mem.readWord s.pc.toNat = some (b3 ++ b2 ++ b1 ++ b0) := by
    simp only [Memory.readWord, h0, h1, h2, h3]
    rfl
  rw [step_eq_runDecoded harm haligned hword]
  refine ⟨fun i hd => ?_, fun n c hd => ?_, fun c hd => ?_, fun e hd => ?_⟩ <;> rw [hd]
  · rfl
  · rfl
  · rfl
  · cases e
    rfl

end Sys2Proof.Machine
end

section
/-! PROOFS. The accesses to primary register 1, from the tests of R142 to the register's bits; the synchronising events; the
registers after reset; and the banks of the register file. -/

namespace Sys2Proof.Machine

open Sys2Proof

/-! ### Carrying an access out (R142) -/

theorem encodingRefusal_rdIsPc (cfg : Cfg) (d : Direction) (a : RegAddr) : encodingRefusal cfg d 15 a = some .rdIsPc := rfl

theorem encodingRefusal_of_rd_ne {rd : BitVec 4} (h : rd ≠ 15) (cfg : Cfg) (d : Direction) (a : RegAddr) :
    encodingRefusal cfg d rd a = addressRefusal cfg d a :=
  if_neg h

/-- A privileged access is one the user-access list need not have. -/
theorem Reaches.as {c : Cond} {s : State} (h : Reaches c s) (target : ExtTarget) : ReachesAs target c s := by
  obtain ⟨hpresent, hcond, hpriv⟩ := h
  exact ⟨hpresent, hcond, fun hu => absurd hu (by simp [hpriv])⟩

theorem ReachesAs.not_turned_away {target : ExtTarget} {c : Cond} {s : State} (h : ReachesAs target c s) :
    (s.inUserMode && !s.cfg.userAllows target) = false := by
  obtain ⟨-, -, huser⟩ := h
  cases hu : s.inUserMode
  · rfl
  · obtain ⟨harch, hlist⟩ := huser hu
    simp [Cfg.userAllows, harch, hlist]

/-- An MRC that meets every test of R142 up to the mode is the access. -/
theorem mrcOp_of_reaches {c : Cond} {rd : BitVec 4} {a : RegAddr} {s : State} (hrd : rd ≠ 15)
    (ha : addressRefusal s.cfg .read a = none) (h : Reaches c s) : mrcOp c rd a s = readAccess rd a s := by
  obtain ⟨hpresent, hcond, hpriv⟩ := h
  simp [mrcOp, hpresent, encodingRefusal_of_rd_ne hrd, ha, hcond, hpriv]

/-- An MCR that meets every test of R142 up to the mode is the access. -/
theorem mcrOp_of_reaches {c : Cond} {rd : BitVec 4} {a : RegAddr} {s : State} (hrd : rd ≠ 15)
    (ha : addressRefusal s.cfg .write a = none) (h : ReachesAs (.write a) c s) : mcrOp c rd a s = writeAccess rd a s := by
  have hmode := h.not_turned_away
  obtain ⟨hpresent, hcond, -⟩ := h
  simp only [mcrOp, hpresent, encodingRefusal_of_rd_ne hrd, ha, hcond, hmode]
  rfl

theorem mcrOp_rdIsPc {c : Cond} {s : State} (a : RegAddr) (h : s.cfg.cp15Absent = false) :
    mcrOp c 15 a s = .refused .rdIsPc := by
  simp only [mcrOp, h, encodingRefusal_rdIsPc]
  rfl

/-- An MRC that reaches a register that answers a word puts it into Rd. -/
theorem mrcOp_of_value {c : Cond} {rd : BitVec 4} {a : RegAddr} {s s' : State} {v : Word} (hrd : rd ≠ 15)
    (h : Reaches c s) (hv : cp15Read a s = .value v s') : mrcOp c rd a s = .next (s'.writeReg rd v).advance := by
  have ha : addressRefusal s.cfg .read a = none := by
    unfold cp15Read at hv
    split at hv
    · cases hv
    · assumption
  rw [mrcOp_of_reaches hrd ha h, readAccess, hv]

/-- An MCR that reaches a register that takes Rd completes. -/
theorem mcrOp_of_done {c : Cond} {rd : BitVec 4} {a : RegAddr} {s s' : State} (hrd : rd ≠ 15)
    (h : ReachesAs (.write a) c s) (hv : cp15Write a (s.readReg rd) s = .done s') :
    mcrOp c rd a s = .next s'.advance := by
  have ha : addressRefusal s.cfg .write a = none := by
    unfold cp15Write at hv
    split at hv
    · cases hv
    · assumption
  rw [mcrOp_of_reaches hrd ha h, writeAccess, hv]

/-- An MCR that reaches a register that has no meaning for Rd is refused. -/
theorem mcrOp_of_unpredictable {c : Cond} {rd : BitVec 4} {a : RegAddr} {s : State} {r : Refusal} (hrd : rd ≠ 15)
    (h : ReachesAs (.write a) c s) (ha : addressRefusal s.cfg .write a = none)
    (hv : cp15Write a (s.readReg rd) s = .unpredictable r) : mcrOp c rd a s = .refused r := by
  rw [mcrOp_of_reaches hrd ha h, writeAccess, hv]

/-! ### Frames -/

theorem sameRegsBut_writeReg (s : State) (rd : BitVec 4) (v : Word) : SameRegsBut [rd] s (s.writeReg rd v).advance := by
  intro k hk
  have hk : k ≠ regSlot s.modeBits rd := by simpa using hk
  rw [State.advance_regs, State.regs_writeReg, if_neg hk]

theorem sameBut_writeReg (s : State) (rd : BitVec 4) (v : Word) : SameBut [] s (s.writeReg rd v).advance := by
  intro p _
  cases p with
  | spsr | mem => exact fun _ => rfl
  | cfg | cpsr | cr | crEff | acr | cpacr | cpacrEff | ext => rfl

theorem sameBut_crWrite (s : State) (v : Word) : SameBut [.cr, .crEff] s (s.crWrite v).advance := by
  intro p hp
  cases p with
  | spsr | mem => exact fun _ => rfl
  | cfg | cpsr | acr | cpacr | cpacrEff | ext => rfl
  | cr | crEff => simp at hp

theorem sameBut_acrWrite (s : State) (v : Word) : SameBut [.acr] s (s.acrWrite v).advance := by
  intro p hp
  cases p with
  | spsr | mem => exact fun _ => rfl
  | cfg | cpsr | cr | crEff | cpacr | cpacrEff | ext => rfl
  | acr => simp at hp

theorem sameBut_cpacrWrite (s : State) (v : Word) : SameBut [.cpacr] s (s.cpacrWrite v).advance := by
  intro p hp
  cases p with
  | spsr | mem => exact fun _ => rfl
  | cfg | cpsr | cr | crEff | acr | cpacrEff | ext => rfl
  | cpacr => simp at hp

/-! ### Primary register 1 (R183, R184, R215, R216, R224, R225) -/

theorem cp15Read_cr (s : State) : cp15Read ⟨0, 1, 0, 0⟩ s = .value s.crRead s := rfl

theorem cp15Read_acr (s : State) : cp15Read ⟨0, 1, 0, 1⟩ s = .value s.acr s := rfl

theorem cp15Read_cpacr (s : State) : cp15Read ⟨0, 1, 0, 2⟩ s = .value s.cpacrRead s := rfl

theorem cp15Write_cr (v : Word) (s : State) : cp15Write ⟨0, 1, 0, 0⟩ v s = .done (s.crWrite v) := rfl

theorem cp15Write_acr (v : Word) (s : State) : cp15Write ⟨0, 1, 0, 1⟩ v s = .done (s.acrWrite v) := rfl

theorem cp15Write_cpacr (v : Word) (s : State) : cp15Write ⟨0, 1, 0, 2⟩ v s =
    if hasReservedRights (v &&& s.cfg.implMask) then .unpredictable .accessRightsReserved
    else .done (s.cpacrWrite v) := rfl

/-- Bit by bit, what a read of the Control register returns (R28, R183). -/
theorem State.crRead_getLsbD (s : State) {n : Nat} (hn : n < 32) : s.crRead.getLsbD n =
    match s.cfg.crKindAt n with
    | .rw => s.cr.getLsbD n
    | .fixed0 => false
    | .fixed1 => true
    | .unp => (Config.draw32 s.draws).getLsbD n := by
  simp only [State.crRead, BitVec.getLsbD_or, BitVec.getLsbD_and, Cfg.rwMask_getLsbD, Cfg.onesMask_getLsbD,
    Cfg.unpMask_getLsbD, hn, decide_true, Bool.true_and]
  cases s.cfg.crKindAt n with
  | rw | fixed0 | fixed1 | unp => simp [beq_eq_decide]

/-- Settles O9. -/
theorem controlRegisterRead : Obligations.ControlRegisterRead := by
  intro c rd s hrd h
  refine ⟨_, mrcOp_of_value hrd h (cp15Read_cr s), fun n hn => ?_, Nat.succ_ne_self _, advanced_advance rfl,
    sameRegsBut_writeReg s rd _, sameBut_writeReg s rd _⟩
  rw [State.readReg_advance, State.readReg_writeReg]
  exact s.crRead_getLsbD hn

/-- Settles O10. -/
theorem controlRegisterWrite : Obligations.ControlRegisterWrite := by
  intro c rd s hrd h
  refine ⟨_, mcrOp_of_done hrd (h.as _) (cp15Write_cr _ s), fun n hn => ?_, fun hv => ?_, fun hv => ?_,
    advanced_advance rfl, fun _ => rfl, sameBut_crWrite s _⟩
  · simp only [State.advance_cr, State.crWrite_cr, BitVec.getLsbD_and, Cfg.rwMask_getLsbD, hn, decide_true,
      Bool.true_and, Bool.and_comm, beq_eq_decide]
  · simp [hv]
  · simp [hv]

/-- Settles O12. -/
theorem auxiliaryControlRead : Obligations.AuxiliaryControlRead := by
  intro c rd s hrd h
  refine ⟨_, mrcOp_of_value hrd h (cp15Read_acr s), ?_, advanced_advance rfl, sameRegsBut_writeReg s rd _,
    sameBut_writeReg s rd _⟩
  rw [State.readReg_advance, State.readReg_writeReg]

/-- Settles O13: where no bit is in the write mask, the invariant leaves none stored before. -/
theorem auxiliaryControlWrite : Obligations.AuxiliaryControlWrite := by
  intro c rd s hrd h
  refine ⟨_, mcrOp_of_done hrd (h.as _) (cp15Write_acr _ s), rfl, fun hmask hinv => ?_, advanced_advance rfl,
    fun _ => rfl, sameBut_acrWrite s _⟩
  have hacr : s.acr = 0 := by
    have hacr := masked_of_outside hinv.acr
    rw [hmask, BitVec.ofNat_eq_ofNat, BitVec.and_zero] at hacr
    exact hacr.symm
  rw [State.advance_acr, State.acrWrite_acr, hmask, hacr, BitVec.ofNat_eq_ofNat, BitVec.and_zero]

/-- No coprocessor above 13 has a rights field (R31). -/
theorem Cfg.implMask_getLsbD_high (c : Cfg) {i : Nat} (hi : 28 ≤ i) : c.implMask.getLsbD i = false := by
  have hnone : c.cpImplAt (i / 2) = false := by simp [Cfg.cpImplAt, show ¬ i / 2 < 14 by omega]
  rw [Cfg.implMask_getLsbD, hnone, Bool.and_false]

/-- Bit by bit, what a read of the Coprocessor access register returns: the drawn bits are above every rights field (R224). -/
theorem State.cpacrRead_getLsbD (s : State) (i : Nat) : s.cpacrRead.getLsbD i =
    if i < 28 then (s.cpacr &&& s.cfg.implMask).getLsbD i else (Config.draw4 s.draws).getLsbD (i - 28) := by
  simp only [State.cpacrRead, BitVec.getLsbD_or, BitVec.getLsbD_append, BitVec.getLsbD_zero]
  split
  · exact Bool.or_false _
  next hi => rw [BitVec.getLsbD_and, Cfg.implMask_getLsbD_high _ (by omega), Bool.and_false, Bool.false_or]

theorem accessRights_cpacrRead (s : State) {n : Nat} (hn : n < 14) :
    accessRights s.cpacrRead n = if s.cfg.cpImplAt n then accessRights s.cpacr n else 0b00 := by
  refine Eq.trans ?_ (accessRights_and_implMask s.cfg s.cpacr hn)
  apply BitVec.eq_of_getLsbD_eq
  intro i hi
  simp only [accessRights, BitVec.getLsbD_extractLsb', State.cpacrRead_getLsbD, show 2 * n + i < 28 by omega, if_true]

theorem cpacrRead_drawn (s : State) : s.cpacrRead.extractLsb' 28 4 = Config.draw4 s.draws := by
  apply BitVec.eq_of_getLsbD_eq
  intro i hi
  simp only [BitVec.getLsbD_extractLsb', State.cpacrRead_getLsbD, hi, show ¬ 28 + i < 28 by omega, if_false,
    decide_true, Bool.true_and, Nat.add_sub_cancel_left]

/-- Settles O14. -/
theorem accessRegisterRead : Obligations.AccessRegisterRead := by
  intro c rd s hrd h
  refine ⟨_, mrcOp_of_value hrd h (cp15Read_cpacr s), fun n hn => ?_, ?_, Nat.succ_ne_self _, advanced_advance rfl,
    sameRegsBut_writeReg s rd _, sameBut_writeReg s rd _⟩ <;>
    rw [State.readReg_advance, State.readReg_writeReg]
  · exact accessRights_cpacrRead s hn
  · exact cpacrRead_drawn s

/-- A write has 0b10 for an implemented coprocessor exactly when the value to be stored has it for some (R225). -/
theorem hasReservedRights_implMask (c : Cfg) (v : Word) : hasReservedRights (v &&& c.implMask) = false ↔
    ∀ n < 14, c.cpImplAt n = true → accessRights v n ≠ 0b10 := by
  rw [hasReservedRights_eq_false]
  refine forall₂_congr fun n hn => ?_
  rw [accessRights_and_implMask c v hn]
  cases c.cpImplAt n <;> simp

/-- Settles O15. -/
theorem accessRegisterWrite : Obligations.AccessRegisterWrite := by
  intro c rd s hrd h
  have hwrite := cp15Write_cpacr (s.readReg rd) s
  refine ⟨fun ⟨n, hn, himpl, hbad⟩ => ?_, fun hgood => ?_⟩
  · have hrights : hasReservedRights (s.readReg rd &&& s.cfg.implMask) = true := by
      rw [← Bool.not_eq_false, hasReservedRights_implMask]
      exact fun hall => hall n hn himpl hbad
    rw [if_pos hrights] at hwrite
    exact mcrOp_of_unpredictable hrd (h.as _) rfl hwrite
  · have hrights := (hasReservedRights_implMask s.cfg (s.readReg rd)).mpr hgood
    rw [hrights, if_neg Bool.false_ne_true] at hwrite
    refine ⟨_, mcrOp_of_done hrd (h.as _) hwrite, fun n hn => accessRights_and_implMask s.cfg _ hn, ?_, rfl,
      advanced_advance rfl, fun _ => rfl, sameBut_cpacrWrite s _⟩
    apply BitVec.eq_of_getLsbD_eq
    intro i hi
    rw [BitVec.getLsbD_extractLsb', State.advance_cpacr, State.cpacrWrite_cpacr, BitVec.getLsbD_and,
      Cfg.implMask_getLsbD_high _ (by omega), Bool.and_false, Bool.and_false, BitVec.getLsbD_zero]

/-! ### The synchronising events (R79) -/

/-- Settles O33: a PrefetchFlush that the handler admits completes, unless Rd is R15, which is refused. -/
theorem synchronisingEvents : Obligations.SynchronisingEvents := by
  refine ⟨fun c rd s t h hrule hexec => ?_, fun s e => ⟨rfl, rfl⟩, fun s t back hret => ?_⟩
  · have hexec : mcrOp c rd ⟨0, 7, 5, 4⟩ s = .next t := hexec
    by_cases hrd : rd = 15
    · rw [hrd, mcrOp_rdIsPc _ h.1] at hexec
      cases hexec
    · have hwrite : cp15Write ⟨0, 7, 5, 4⟩ (s.readReg rd) s = .done s.synchronise := by
        show extWrite ⟨0, 7, 5, 4⟩ (s.readReg rd) s = _
        simp only [extWrite, extAnswer, hrule]
      rw [mcrOp_of_done hrd h hwrite] at hexec
      cases hexec
      exact ⟨rfl, rfl⟩
  · unfold State.exceptionReturn at hret
    split at hret <;> cases hret
    exact ⟨rfl, rfl⟩

/-! ### Access denied (R230) -/

theorem groupUnequal_zero (c : Cfg) (n : Nat) : groupUnequal c 0 n = false := by
  simp only [groupUnequal, accessRights_zero, bne_self_eq_false]
  simp

theorem coprocAccessCheck_denied {s : State} (h : s.cpacr = 0) (heff : s.cpacrEff = 0) (n : Nat) :
    coprocAccessCheck n s = .undefined := by
  simp only [coprocAccessCheck, h, heff, accessRights_zero, groupUnequal_zero]
  rfl

/-- Settles O35. -/
theorem accessDeniedAfterReset : Obligations.AccessDeniedAfterReset := by
  refine ⟨fun cfg n _ => ⟨accessRights_zero n, accessRights_zero n⟩, fun n c s hn hc h heff => ?_⟩
  refine ⟨_, ?_, entersUndefined_takeException s⟩
  simp only [execCoprocessor, hc, coprocAccessCheck_denied h heff, show ¬ 14 ≤ n.toNat by omega]
  rfl

/-! ### Reset (R46 to R51) -/

theorem bitAt_getLsbD (b : Bool) {i n : Nat} (hn : n < 32) : (bitAt b i).getLsbD n = (decide (n = i) && b) := by
  cases b
  · simp [bitAt]
  · simp only [bitAt, if_true, BitVec.getLsbD_twoPow, Bool.and_true]
    grind

/-- Bit by bit, the Control register after reset: V and the preset bits, where the register stores them. -/
theorem Cfg.resetCr_getLsbD (c : Cfg) {n : Nat} (hn : n < 32) : c.resetCr.getLsbD n =
    (decide (c.crKindAt n = .rw) &&
      if n = 13 then c.vReset
      else if n = 7 then c.endianReset.b
      else if n = 22 then c.endianReset.u
      else if n = 25 then c.endianReset.ee
      else false) := by
  simp only [Cfg.resetCr, BitVec.getLsbD_and, BitVec.getLsbD_or, bitAt_getLsbD _ hn, Cfg.rwMask_getLsbD, hn,
    decide_true, Bool.true_and, beq_eq_decide]
  rw [Bool.and_comm]
  congr 1
  by_cases hset : n = 13 ∨ n = 7 ∨ n = 22 ∨ n = 25
  · rcases hset with rfl | rfl | rfl | rfl <;> simp
  · obtain ⟨h13, h7, h22, h25⟩ := by simpa only [not_or] using hset
    simp [h13, h7, h22, h25]

/-- Settles O40. -/
theorem resetControlState : Obligations.ResetControlState := by
  intro cfg
  refine ⟨fun n hn => ?_, rfl, rfl, rfl, rfl, rfl⟩
  rw [State.resetWith_cr, Cfg.resetCr_getLsbD cfg hn, Cfg.endianReset]
  cases cfg.arch <;> rfl

/-! ### The register banks (R40, R269) -/

/-- The register of the instruction set that a place of the register file is. -/
def regNumber (k : Fin 30) : BitVec 4 :=
  if k.val < 15 then BitVec.ofNat 4 k.val
  else if k.val < 22 then BitVec.ofNat 4 (k.val - 7)
  else BitVec.ofNat 4 (13 + k.val % 2)

/-- A place belongs to one register of the instruction set, whatever the mode. -/
theorem regNumber_regSlot : ∀ (m : BitVec 5) (i : BitVec 4), i ≠ 15 → regNumber (regSlot m i) = i := by
  decide

/-- Two modes share R0 to R7. -/
theorem regSlot_low {i : BitVec 4} (hi : i.toNat < 8) (m m' : BitVec 5) : regSlot m i = regSlot m' i := by
  simp [regSlot, hi]

/-- Two modes share R8 to R12 unless one of them alone is FIQ mode. -/
theorem regSlot_middle {i : BitVec 4} (hlow : 8 ≤ i.toNat) (hhigh : i.toNat ≤ 12) (m m' : BitVec 5) :
    regSlot m i = regSlot m' i ↔ (m = fiqMode ↔ m' = fiqMode) := by
  have hslot (m : BitVec 5) : (regSlot m i).val = if m = fiqMode then i.toNat + 7 else i.toNat := by
    simp only [regSlot, show ¬ i.toNat < 8 by omega, show i.toNat < 13 by omega, if_true, if_false]
    split <;> exact Nat.mod_eq_of_lt (by omega)
  rw [Fin.ext_iff, hslot, hslot]
  split <;> split <;> simp [*]

/-- Two modes share R13 and R14 when they are one mode, or User and System mode. -/
theorem regSlot_banked : ∀ m m' : BitVec 5, legalMode m = true → legalMode m' = true → ∀ i : BitVec 4,
    13 ≤ i.toNat → i ≠ 15 →
    (regSlot m i = regSlot m' i ↔ m = m' ∨ (m ∈ [userMode, systemMode] ∧ m' ∈ [userMode, systemMode])) := by
  decide

/-- The registers two modes share, of all of R0 to R14. -/
theorem regSlot_eq_iff {m m' : BitVec 5} (hm : legalMode m = true) (hm' : legalMode m' = true) {i j : BitVec 4}
    (hi : i ≠ 15) (hj : j ≠ 15) :
    regSlot m' j = regSlot m i ↔
      j = i ∧ (i.toNat < 8 ∨ (i.toNat ≤ 12 ∧ (m = fiqMode ↔ m' = fiqMode)) ∨ m = m' ∨
        (m ∈ [userMode, systemMode] ∧ m' ∈ [userMode, systemMode])) := by
  by_cases hji : j = i
  · subst hji
    rw [eq_comm (a := regSlot m' j)]
    by_cases hlow : j.toNat < 8
    · simp [hlow, regSlot_low hlow m m']
    by_cases hmid : j.toNat ≤ 12
    · rw [regSlot_middle (by omega) hmid]
      have huser : userMode ≠ fiqMode := by decide
      have hsystem : systemMode ≠ fiqMode := by decide
      grind
    · rw [regSlot_banked m m' hm hm' j (by omega) hj]
      simp [hlow, hmid]
  · refine iff_of_false (fun h => hji ?_) fun h => hji h.1
    rw [← regNumber_regSlot m' j hj, h, regNumber_regSlot m i hi]

/-- Settles O52: a write is seen through the places the modes share. -/
theorem registerBanks : Obligations.RegisterBanks := by
  intro s t i j v hi hj hs ht hregs
  have hread : t.readReg j = (s.writeReg i v).regs[regSlot t.modeBits j] := by rw [← hregs]; rfl
  rw [hread, State.regs_writeReg]
  exact if_congr (regSlot_eq_iff hs ht hi hj) rfl rfl

end Sys2Proof.Machine
end

section
/-! PROOFS. Two machines that differ in the Control and Auxiliary control registers take the same step in User mode, side by side. -/

namespace Sys2Proof.Machine

open Sys2Proof

/-! ### The five shapes of an instruction -/

/-- Every instruction is a form every CP15 leaves UNDEFINED, or one of the four register accesses. -/
theorem exec_shape (i : Instr) :
    (∃ c, ∀ s, exec i s = undefinedForm c s) ∨
    (∃ c rd a, ∀ s, exec i s = mrcOp c rd a s) ∨
    (∃ c rd a, ∀ s, exec i s = mcrOp c rd a s) ∨
    (∃ c rn rd op crm, ∀ s, exec i s = mrrcOp c rn rd op crm s) ∨
    (∃ c rn rd op crm, ∀ s, exec i s = mcrrOp c rn rd op crm s) :=
  match i with
  | .cdp2 .. | .mrc2 .. | .mcr2 .. | .mrrc2 .. | .mcrr2 .. | .ldc2 .. | .stc2 .. => .inl ⟨none, fun _ => rfl⟩
  | .cdp c .. | .ldc c .. | .stc c .. => .inl ⟨some c, fun _ => rfl⟩
  | .ldcStcCorner c .. => .inl ⟨c, fun _ => rfl⟩
  | .mrc .. | .mrcMidr .. | .mrcCtr .. | .mrcTcmtr .. | .mrcTlbtr .. | .mrcMpuir .. | .mrcId5 .. | .mrcId6 .. | .mrcId7 ..
  | .mrcCr .. | .mrcAcr .. | .mrcCpacr .. | .mrcC2 .. | .mrcC3 .. | .mrcC4 .. | .mrcC5 .. | .mrcC6 .. | .mrcC7 ..
  | .mrcC8 .. | .mrcC9 .. | .mrcC10 .. | .mrcC11 .. | .mrcC12 .. | .mrcC13 .. | .mrcC14 .. | .mrcC15 .. =>
    .inr (.inl ⟨_, _, _, exec_mrcForm rfl⟩)
  | .mcr .. | .mcrCr .. | .mcrAcr .. | .mcrCpacr .. | .mcrC2 .. | .mcrC3 .. | .mcrC4 .. | .mcrC5 .. | .mcrC6 .. | .mcrC7 ..
  | .mcrC8 .. | .mcrC9 .. | .mcrC10 .. | .mcrC11 .. | .mcrC12 .. | .mcrC13 .. | .mcrC14 .. | .mcrC15 ..
  | .prefetchFlush .. | .dataSyncBarrier .. | .dataMemBarrier .. =>
    .inr (.inr (.inl ⟨_, _, _, exec_mcrForm rfl⟩))
  | .mrrc c rn rd op crm => .inr (.inr (.inr (.inl ⟨c, rn, rd, op, crm, fun _ => rfl⟩)))
  | .mcrr c rn rd op crm => .inr (.inr (.inr (.inr ⟨c, rn, rd, op, crm, fun _ => rfl⟩)))

/-! ### Two machines that differ in the two registers -/

/-- The machine with other values in the Control and Auxiliary control registers. -/
def State.withControl (s : State) (cr acr : Word) : State :=
  { s with
    cr := cr
    acr := acr }

/-- The other values agree with the registers in the bits the implementation gives a meaning to (P12, P16). -/
structure KeepsMeanings (s : State) (cr acr : Word) : Prop where
  acr : s.cfg.acrMeaning = .noEffect ∨ acr = s.acr
  f : s.cfg.fMeaning = .noEffect ∨ cr.getLsbD 10 = s.cr.getLsbD 10

/-- Two machines that show the same in User mode; the count of draws is part of it, since free values depend on it. -/
structure LooksAs (t t' : State) : Prop where
  regs : t'.regs = t.regs
  pc : t'.pc = t.pc
  cpsr : t'.cpsr = t.cpsr
  spsr : t'.spsr = t.spsr
  ext : t'.ext = t.ext
  mem : t'.mem = t.mem
  draws : t'.draws = t.draws

/-- Where the one outcome is a next state, so is the other, and the two look alike. -/
def Follows (o o' : Host.Outcome State Fault Refusal) : Prop :=
  ∀ t, o = .next t → ∃ t', o' = .next t' ∧ LooksAs t t'

/-- The handler answers alike. -/
inductive ExtAnswer.Alike : ExtAnswer → ExtAnswer → Prop where
  | done {u u' : State} (h : LooksAs u u') : Alike (.done u) (.done u')
  | undefined : Alike .undefined .undefined
  | unpredictable (r : Refusal) : Alike (.unpredictable r) (.unpredictable r)

/-- CP15Write answers alike. -/
inductive WriteVerdict.Alike : WriteVerdict → WriteVerdict → Prop where
  | done {u u' : State} (h : LooksAs u u') : Alike (.done u) (.done u')
  | undefined : Alike .undefined .undefined
  | unpredictable (r : Refusal) : Alike (.unpredictable r) (.unpredictable r)

theorem follows_next {t t' : State} (h : LooksAs t t') : Follows (.next t) (.next t') := by
  intro u hu
  cases hu
  exact ⟨t', rfl, h⟩

theorem follows_refused (r : Refusal) (o : Host.Outcome State Fault Refusal) : Follows (.refused r) o := by
  intro u hu
  cases hu

/-- A test that has one result in both machines. -/
theorem follows_ite {p : Prop} [Decidable p] {o₁ o₂ o₁' o₂' : Host.Outcome State Fault Refusal}
    (h₁ : p → Follows o₁ o₁') (h₂ : ¬ p → Follows o₂ o₂') : Follows (if p then o₁ else o₂) (if p then o₁' else o₂') := by
  split
  · exact h₁ ‹_›
  · exact h₂ ‹_›

/-- The pc moves on alike. -/
theorem LooksAs.advance {t t' : State} (h : LooksAs t t') : LooksAs t.advance t'.advance :=
  { h with
    pc := by rw [State.advance_pc, State.advance_pc, h.pc, h.draws]
    draws := congrArg (· + 1) h.draws }

section

variable {s : State} {cr acr : Word}

theorem looksAs_withControl : LooksAs s (s.withControl cr acr) :=
  ⟨rfl, rfl, rfl, rfl, rfl, rfl, rfl⟩

theorem follows_advance : Follows (.next s.advance) (.next (s.withControl cr acr).advance) :=
  follows_next looksAs_withControl.advance

/-- An exception consults the effective copy of the Control register, not the register. -/
theorem follows_undefinedInstruction : Follows (undefinedInstruction s) (undefinedInstruction (s.withControl cr acr)) :=
  follows_next ⟨rfl, rfl, rfl, rfl, rfl, rfl, rfl⟩

theorem condPassed_withControl (c : Cond) : condPassed c (s.withControl cr acr) = condPassed c s := by
  cases c <;> rfl

theorem condFieldPassed_withControl (c : Option Cond) :
    condFieldPassed c (s.withControl cr acr) = condFieldPassed c s := by
  cases c with
  | none => rfl
  | some c => exact condPassed_withControl c

/-! ### The handler sees the bits with a meaning only -/

theorem implControls_withControl (h : KeepsMeanings s cr acr) : (s.withControl cr acr).implControls = s.implControls := by
  obtain hacr | rfl := h.acr
  · have hseen : (if s.cfg.acrMeaning = .implementationDefined then acr else 0) =
        if s.cfg.acrMeaning = .implementationDefined then s.acr else 0 := by
      rw [hacr]
      rfl
    exact congrArg (ImplControls.mk · s.implControls.f) hseen
  · rfl

theorem fUnsettled_withControl (h : KeepsMeanings s cr acr) : (s.withControl cr acr).fUnsettled = s.fUnsettled := by
  obtain hf | hf := h.f
  · simp [State.fUnsettled, State.withControl, hf]
  · have hsync : (s.withControl cr acr).unsynchronised .f = s.unsynchronised .f :=
      congrArg (· != s.crEff.getLsbD 10) hf
    exact congrArg (_ && ·) hsync

theorem looksAs_moveExt_withControl (h : KeepsMeanings s cr acr) (call : ExtCall) :
    LooksAs (s.moveExt call) ((s.withControl cr acr).moveExt call) :=
  { looksAs_withControl (s := s) (cr := cr) (acr := acr) with
    ext := congrArg (Config.extNext s.ext · call) (implControls_withControl h) }

theorem extAnswer_withControl (h : KeepsMeanings s cr acr) (call : ExtCall) :
    (extAnswer call s).Alike (extAnswer call (s.withControl cr acr)) := by
  have hcfg : (s.withControl cr acr).cfg = s.cfg := rfl
  have hext : (s.withControl cr acr).ext = s.ext := rfl
  unfold extAnswer
  rw [hcfg, hext, fUnsettled_withControl h, implControls_withControl h]
  cases s.cfg.extRule call.target with
  | unpredictable => exact .unpredictable _
  | undefined => exact .undefined
  | noEffect => exact .done looksAs_withControl
  | prefetchFlush => exact .done ⟨rfl, rfl, rfl, rfl, rfl, rfl, rfl⟩
  | served =>
    cases s.fUnsettled with
    | true => exact .unpredictable _
    | false => exact .done (looksAs_moveExt_withControl h call)
  | byHandler =>
    cases s.fUnsettled with
    | true => exact .unpredictable _
    | false =>
      rw [if_neg Bool.false_ne_true, if_neg Bool.false_ne_true]
      cases Config.extVerdict s.ext s.implControls call with
      | done => exact .done (looksAs_moveExt_withControl h call)
      | undefined => exact .undefined
      | unpredictable => exact .unpredictable _

/-! ### A write that User mode may make -/

theorem extWrite_withControl (h : KeepsMeanings s cr acr) (a : RegAddr) (v : Word) :
    (extWrite a v s).Alike (extWrite a v (s.withControl cr acr)) := by
  have hanswer := extAnswer_withControl h ⟨.write a, v, 0⟩
  unfold extWrite
  generalize extAnswer ⟨.write a, v, 0⟩ s = o, extAnswer ⟨.write a, v, 0⟩ (s.withControl cr acr) = o' at hanswer ⊢
  cases hanswer with
  | done hlooks => exact .done hlooks
  | undefined => exact .undefined
  | unpredictable r => exact .unpredictable r

/-- What a write stores in the three control registers does not show. -/
theorem writeControl_withControl (opc2 : BitVec 3) (v : Word) :
    (writeControl opc2 v s).Alike (writeControl opc2 v (s.withControl cr acr)) := by
  have hcfg : (s.withControl cr acr).cfg = s.cfg := rfl
  unfold writeControl
  rw [hcfg]
  split
  · exact .done ⟨rfl, rfl, rfl, rfl, rfl, rfl, rfl⟩
  · exact .done ⟨rfl, rfl, rfl, rfl, rfl, rfl, rfl⟩
  · split
    · exact .unpredictable _
    · exact .done ⟨rfl, rfl, rfl, rfl, rfl, rfl, rfl⟩
  · exact .unpredictable _

theorem cp15Write_withControl (h : KeepsMeanings s cr acr) (a : RegAddr) (v : Word) :
    (cp15Write a v s).Alike (cp15Write a v (s.withControl cr acr)) := by
  have hcfg : (s.withControl cr acr).cfg = s.cfg := rfl
  unfold cp15Write
  rw [hcfg]
  cases addressRefusal s.cfg .write a with
  | some r => exact .unpredictable r
  | none =>
    by_cases hopc1 : a.opc1 ≠ 0
    · simpa only [if_pos hopc1] using extWrite_withControl h a v
    by_cases hcontrol : a.crn = 1
    · simpa only [if_neg hopc1, if_pos hcontrol] using writeControl_withControl a.opc2 v
    by_cases hreserved : a.crn = 12 ∨ a.crn = 14
    · simpa only [if_neg hopc1, if_neg hcontrol, if_pos hreserved] using WriteVerdict.Alike.undefined
    · simpa only [if_neg hopc1, if_neg hcontrol, if_neg hreserved] using extWrite_withControl h a v

theorem follows_writeAccess (h : KeepsMeanings s cr acr) (rd : BitVec 4) (a : RegAddr) :
    Follows (writeAccess rd a s) (writeAccess rd a (s.withControl cr acr)) := by
  have hreg : (s.withControl cr acr).readReg rd = s.readReg rd := rfl
  have hverdict := cp15Write_withControl h a (s.readReg rd)
  unfold writeAccess
  rw [hreg]
  generalize cp15Write a (s.readReg rd) s = o, cp15Write a (s.readReg rd) (s.withControl cr acr) = o' at hverdict ⊢
  cases hverdict with
  | done hlooks => exact follows_next hlooks.advance
  | undefined => exact follows_undefinedInstruction
  | unpredictable r => exact follows_refused r _

theorem follows_mcrrAccess (h : KeepsMeanings s cr acr) (rn rd op crm : BitVec 4) :
    Follows (mcrrAccess rn rd op crm s) (mcrrAccess rn rd op crm (s.withControl cr acr)) := by
  have hreg (i : BitVec 4) : (s.withControl cr acr).readReg i = s.readReg i := rfl
  have hanswer := extAnswer_withControl h ⟨.mcrr op crm, s.readReg rd, s.readReg rn⟩
  unfold mcrrAccess
  rw [hreg, hreg]
  generalize extAnswer _ s = o, extAnswer _ (s.withControl cr acr) = o' at hanswer ⊢
  cases hanswer with
  | done hlooks => exact follows_next hlooks.advance
  | undefined => exact follows_undefinedInstruction
  | unpredictable r => exact follows_refused r _

/-! ### The instructions in User mode -/

theorem follows_undefinedForm (c : Option Cond) :
    Follows (undefinedForm c s) (undefinedForm c (s.withControl cr acr)) := by
  unfold undefinedForm
  rw [condFieldPassed_withControl]
  exact follows_ite (fun _ => follows_undefinedInstruction) fun _ => follows_advance

theorem follows_withoutCp15 (c : Cond) : Follows (withoutCp15 c s) (withoutCp15 c (s.withControl cr acr)) :=
  follows_undefinedForm (some c)

theorem follows_mrcOp (hu : s.inUserMode = true) (c : Cond) (rd : BitVec 4) (a : RegAddr) :
    Follows (mrcOp c rd a s) (mrcOp c rd a (s.withControl cr acr)) := by
  have hcfg : (s.withControl cr acr).cfg = s.cfg := rfl
  unfold mrcOp
  rw [hcfg, condPassed_withControl]
  refine follows_ite (fun _ => follows_withoutCp15 c) fun _ => ?_
  cases encodingRefusal s.cfg .read rd a with
  | some r => exact follows_refused r _
  | none =>
    refine follows_ite (fun _ => follows_advance) fun _ => ?_
    exact follows_ite (fun _ => follows_undefinedInstruction) fun hpriv => absurd hu hpriv

theorem follows_mcrOp (h : KeepsMeanings s cr acr) (c : Cond) (rd : BitVec 4) (a : RegAddr) :
    Follows (mcrOp c rd a s) (mcrOp c rd a (s.withControl cr acr)) := by
  have hcfg : (s.withControl cr acr).cfg = s.cfg := rfl
  unfold mcrOp
  rw [hcfg, condPassed_withControl]
  refine follows_ite (fun _ => follows_withoutCp15 c) fun _ => ?_
  cases encodingRefusal s.cfg .write rd a with
  | some r => exact follows_refused r _
  | none =>
    refine follows_ite (fun _ => follows_advance) fun _ => ?_
    exact follows_ite (fun _ => follows_undefinedInstruction) fun _ => follows_writeAccess h rd a

theorem follows_mrrcOp (hu : s.inUserMode = true) (c : Cond) (rn rd op crm : BitVec 4) :
    Follows (mrrcOp c rn rd op crm s) (mrrcOp c rn rd op crm (s.withControl cr acr)) := by
  unfold mrrcOp
  rw [condPassed_withControl]
  refine follows_ite (fun _ => follows_withoutCp15 c) fun _ => ?_
  refine follows_ite (fun _ => follows_refused _ _) fun _ => ?_
  refine follows_ite (fun _ => follows_advance) fun _ => ?_
  exact follows_ite (fun _ => follows_undefinedInstruction) fun hpriv => absurd hu hpriv

theorem follows_mcrrOp (h : KeepsMeanings s cr acr) (c : Cond) (rn rd op crm : BitVec 4) :
    Follows (mcrrOp c rn rd op crm s) (mcrrOp c rn rd op crm (s.withControl cr acr)) := by
  unfold mcrrOp
  rw [condPassed_withControl]
  refine follows_ite (fun _ => follows_withoutCp15 c) fun _ => ?_
  refine follows_ite (fun _ => follows_refused _ _) fun _ => ?_
  refine follows_ite (fun _ => follows_advance) fun _ => ?_
  exact follows_ite (fun _ => follows_undefinedInstruction) fun _ => follows_mcrrAccess h rn rd op crm

theorem follows_exec (hu : s.inUserMode = true) (h : KeepsMeanings s cr acr) (i : Instr) :
    Follows (exec i s) (exec i (s.withControl cr acr)) := by
  rcases exec_shape i with ⟨c, he⟩ | ⟨c, rd, a, he⟩ | ⟨c, rd, a, he⟩ | ⟨c, rn, rd, op, crm, he⟩ |
    ⟨c, rn, rd, op, crm, he⟩ <;> rw [he, he]
  · exact follows_undefinedForm c
  · exact follows_mrcOp hu c rd a
  · exact follows_mcrOp h c rd a
  · exact follows_mrrcOp hu c rn rd op crm
  · exact follows_mcrrOp h c rn rd op crm

/-- The access check of another coprocessor consults neither register. -/
theorem follows_execCoprocessor (n : BitVec 4) (c : Option Cond) :
    Follows (execCoprocessor n c s) (execCoprocessor n c (s.withControl cr acr)) := by
  have hcheck : coprocAccessCheck n.toNat (s.withControl cr acr) = coprocAccessCheck n.toNat s := rfl
  unfold execCoprocessor
  rw [condFieldPassed_withControl, hcheck]
  refine follows_ite (fun _ => follows_advance) fun _ => ?_
  refine follows_ite (fun _ => follows_refused _ _) fun _ => ?_
  cases coprocAccessCheck n.toNat s with
  | proceed => exact follows_refused _ _
  | undefined => exact follows_undefinedInstruction
  | unpredictable r => exact follows_refused r _

theorem follows_step (hu : s.inUserMode = true) (h : KeepsMeanings s cr acr) :
    Follows (step s) (step (s.withControl cr acr)) := by
  intro t ht
  obtain ⟨harm, haligned, w, hw, hrun⟩ := step_next_fetch ht
  rw [step_eq_runDecoded (s := s.withControl cr acr) harm haligned hw]
  suffices hrun' : Follows (runDecoded (decode w) s) (runDecoded (decode w) (s.withControl cr acr)) from hrun' t hrun
  cases decode w with
  | instr i => exact follows_exec hu h i
  | coprocessor n c => exact follows_execCoprocessor n c
  | coprocessorCorner c => exact follows_undefinedForm c
  | rejected e =>
    cases e
    exact follows_refused _ _

end

/-- Settles O45: the two machines take the same step, side by side, and look alike after it. -/
theorem userModeCannotLearnControl : Obligations.UserModeCannotLearnControl := by
  intro s t cr acr hu ht hacr hf
  obtain ⟨t', ht', hlooks⟩ := follows_step hu ⟨hacr, hf⟩ t ht
  exact ⟨t', ht', hlooks.regs, hlooks.pc, hlooks.cpsr, hlooks.spsr, hlooks.ext, hlooks.mem⟩

end Sys2Proof.Machine
end

section
/-! PROOFS. What the operations of c7 that the handler admits leave behind, what the alignment and unaligned bits make of a
data access, a word placed in memory, and the words the spec prints. -/

namespace Sys2Proof.Machine

open Sys2Proof

/-! ### The barrier operations (R78, R79, R144) -/

/-- A write of c7 is the handler's. -/
theorem cp15Write_c7 (crm : BitVec 4) (opc2 : BitVec 3) (v : Word) (s : State) :
    cp15Write ⟨0, 7, crm, opc2⟩ v s = extWrite ⟨0, 7, crm, opc2⟩ v s := rfl

theorem extWrite_of_noEffect {a : RegAddr} {s : State} (h : s.cfg.extRule (.write a) = .noEffect) (v : Word) :
    extWrite a v s = .done s := by
  simp only [extWrite, extAnswer, h]

theorem extWrite_of_prefetchFlush {a : RegAddr} {s : State} (h : s.cfg.extRule (.write a) = .prefetchFlush) (v : Word) :
    extWrite a v s = .done s.synchronise := by
  simp only [extWrite, extAnswer, h]

theorem sameBut_synchronise (s : State) : SameBut [.crEff, .cpacrEff] s s.synchronise.advance := by
  intro p hp
  cases p with
  | spsr | mem => exact fun _ => rfl
  | cfg | cpsr | cr | acr | cpacr | ext => rfl
  | crEff | cpacrEff => simp at hp

/-- Settles O31. -/
theorem prefetchFlushCompletes : Obligations.PrefetchFlushCompletes := by
  intro c rd s hrd h hrule
  have hwrite := (cp15Write_c7 5 4 (s.readReg rd) s).trans (extWrite_of_prefetchFlush hrule _)
  exact ⟨_, mcrOp_of_done hrd h hwrite, rfl, rfl, advanced_advance rfl, fun _ => rfl, sameBut_synchronise s⟩

/-- A write of c7 that the handler gives no effect only moves the pc. -/
theorem mcrOp_c7_onlyAdvances {c : Cond} {rd crm : BitVec 4} {opc2 : BitVec 3} {s : State} (hrd : rd ≠ 15)
    (h : ReachesAs (.write ⟨0, 7, crm, opc2⟩) c s) (hrule : s.cfg.extRule (.write ⟨0, 7, crm, opc2⟩) = .noEffect) :
    ∃ t, mcrOp c rd ⟨0, 7, crm, opc2⟩ s = .next t ∧ OnlyAdvances s t := by
  have hwrite := (cp15Write_c7 crm opc2 (s.readReg rd) s).trans (extWrite_of_noEffect hrule _)
  exact ⟨_, mcrOp_of_done hrd h hwrite, onlyAdvances_advance s⟩

/-- Settles O32. -/
theorem barriersOnlyAdvance : Obligations.BarriersOnlyAdvance := fun _ _ _ hrd =>
  ⟨mcrOp_c7_onlyAdvances hrd, mcrOp_c7_onlyAdvances hrd⟩

/-! ### Data accesses (R66, R184, R187, R204) -/

theorem CrBit.position_lt (bit : CrBit) : bit.position < 32 := by
  cases bit <;> decide

theorem State.unsynchronised_iff (s : State) (bit : CrBit) :
    s.unsynchronised bit = true ↔ s.cr.getLsbD bit.position ≠ s.crEff.getLsbD bit.position :=
  bne_iff_ne

/-- The rest of the processor sees a 1 where a 1 is in effect, and in a FIXED1 bit (R27, R36; log 16). -/
theorem State.exported_iff (s : State) (bit : CrBit) :
    s.exported bit = true ↔ s.crEff.getLsbD bit.position = true ∨ s.cfg.crKindAt bit.position = .fixed1 := by
  simp only [State.exported, BitVec.getLsbD_or, Cfg.onesMask_getLsbD, bit.position_lt, decide_true, Bool.true_and,
    Bool.or_eq_true, beq_iff_eq]

/-- Settles O53: the access asks, in this order, whether the address is aligned, whether A is in effect, what A is, whether U
is in effect, and what U is. -/
theorem dataAlignment : Obligations.DataAlignment := by
  intro s k addr n _
  have haSync : s.unsynchronised .a = true ↔ s.cr.getLsbD 1 ≠ s.crEff.getLsbD 1 := s.unsynchronised_iff .a
  have ha : s.exported .a = true ↔ s.crEff.getLsbD 1 = true ∨ s.cfg.crKindAt 1 = .fixed1 := s.exported_iff .a
  have huSync : s.unsynchronised .u = true ↔ s.cr.getLsbD 22 ≠ s.crEff.getLsbD 22 := s.unsynchronised_iff .u
  have hu : s.exported .u = true ↔ s.crEff.getLsbD 22 = true ∨ s.cfg.crKindAt 22 = .fixed1 := s.exported_iff .u
  simp only [State.dataAccess, ← haSync, ← ha, ← huSync, ← hu]
  split
  · rfl
  split
  · rfl
  split
  · rfl
  split
  · rfl
  split
  · rfl
  cases k with
  | load | store => rfl

/-! ### Memory (R60) -/

/-- Settles O51. -/
theorem memoryReadsAsWritten : Obligations.MemoryReadsAsWritten := fun m k w =>
  ⟨m.readWord_writeWord k w, fun j => m.readByte_writeWord_other k j w, fun hm hk => Memory.wf_writeWord hm hk w⟩

/-! ### Words the spec prints (30_encoding.md) -/

/-- Settles O4: twelve words, each run through the decoder. -/
theorem printedWordsDecode : Obligations.PrintedWordsDecode := by
  unfold Obligations.PrintedWordsDecode
  decide

end Sys2Proof.Machine
end

section
/-! PROOFS. The encoding: the decoder and the encoder are each other's inverse on the words of CP15 and the well-formed
instructions, and the class of each word. -/

namespace Sys2Proof.Machine

open Sys2Proof Sys2Proof.Laws

/-! ### The forms of the register accesses

Every MRC and every MCR is fixed by its condition, its Rd and its register address: `mrcForm` and `mcrForm`. -/

theorem encode_of_mrcForm {i : Instr} {c : Cond} {rd : BitVec 4} {a : RegAddr} (h : mrcForm i = some (c, rd, a)) :
    encode i = mcrWord c.bits a.opc1 1 a.crn rd a.opc2 a.crm := by
  cases i <;> simp only [mrcForm, Option.some.injEq, Prod.mk.injEq, reduceCtorEq] at h <;>
    (obtain ⟨rfl, rfl, rfl⟩ := h; rfl)

theorem encode_of_mcrForm {i : Instr} {c : Cond} {rd : BitVec 4} {a : RegAddr} (h : mcrForm i = some (c, rd, a)) :
    encode i = mcrWord c.bits a.opc1 0 a.crn rd a.opc2 a.crm := by
  cases i <;> simp only [mcrForm, Option.some.injEq, Prod.mk.injEq, reduceCtorEq] at h <;>
    (obtain ⟨rfl, rfl, rfl⟩ := h; rfl)

theorem instrClass_of_mrcForm {i : Instr} {c : Cond} {rd : BitVec 4} {a : RegAddr} (h : mrcForm i = some (c, rd, a)) :
    instrClass i = .mrc := by
  cases i <;> simp only [mrcForm, reduceCtorEq] at h <;> rfl

theorem instrClass_of_mcrForm {i : Instr} {c : Cond} {rd : BitVec 4} {a : RegAddr} (h : mcrForm i = some (c, rd, a)) :
    instrClass i = .mcr := by
  cases i <;> simp only [mcrForm, reduceCtorEq] at h <;> rfl

/-! ### The register-level rows (R111) -/

theorem eq_ofNat_of_toNat {n k : Nat} {x : BitVec n} (h : x.toNat = k) : x = BitVec.ofNat n k := by
  rw [← h, BitVec.ofNat_toNat, BitVec.setWidth_eq]

/-- The row the decoder chooses for an MRC has the fields of the word, and may carry them. -/
theorem refineMrc_form (c : Cond) (opc1 : BitVec 3) (crn rd : BitVec 4) (opc2 : BitVec 3) (crm : BitVec 4) :
    mrcForm (refineMrc c opc1 crn rd opc2 crm) = some (c, rd, ⟨opc1, crn, crm, opc2⟩) ∧
    (refineMrc c opc1 crn rd opc2 crm).wellFormed = true := by
  unfold refineMrc
  split
  case h_1 hcrn =>
    obtain rfl := eq_ofNat_of_toNat hcrn
    split
    next haddr =>
      obtain ⟨rfl, rfl⟩ := haddr
      split
      case h_8 =>
        have hlt := opc2.isLt
        obtain rfl : opc2 = 7 := eq_ofNat_of_toNat (by grind)
        exact ⟨rfl, rfl⟩
      all_goals
        obtain rfl := eq_ofNat_of_toNat ‹opc2.toNat = _›
        exact ⟨rfl, rfl⟩
    next haddr => exact ⟨rfl, by grind [Instr.wellFormed, hasMrcRow]⟩
  case h_2 hcrn =>
    obtain rfl := eq_ofNat_of_toNat hcrn
    split
    next haddr =>
      obtain ⟨rfl, rfl⟩ := haddr
      split
      case h_4 => exact ⟨rfl, by grind [Instr.wellFormed, hasMrcRow]⟩
      all_goals
        obtain rfl := eq_ofNat_of_toNat ‹opc2.toNat = _›
        exact ⟨rfl, rfl⟩
    next haddr => exact ⟨rfl, by grind [Instr.wellFormed, hasMrcRow]⟩
  case h_16 =>
    have hlt := crn.isLt
    obtain rfl : crn = 15 := eq_ofNat_of_toNat (by grind)
    exact ⟨rfl, rfl⟩
  all_goals
    obtain rfl := eq_ofNat_of_toNat ‹crn.toNat = _›
    exact ⟨rfl, rfl⟩

/-- The row the decoder chooses for a write of c7 likewise: a barrier operation has a row of its own. -/
theorem refineMcrC7_form (c : Cond) (opc1 : BitVec 3) (rd : BitVec 4) (opc2 : BitVec 3) (crm : BitVec 4) :
    mcrForm (refineMcrC7 c opc1 rd opc2 crm) = some (c, rd, ⟨opc1, 7, crm, opc2⟩) ∧
    (refineMcrC7 c opc1 rd opc2 crm).wellFormed = true := by
  unfold refineMcrC7
  split
  next h =>
    obtain ⟨rfl, rfl, rfl⟩ := h
    exact ⟨rfl, rfl⟩
  split
  next h =>
    obtain ⟨rfl, rfl, rfl⟩ := h
    exact ⟨rfl, rfl⟩
  split
  next h =>
    obtain ⟨rfl, rfl, rfl⟩ := h
    exact ⟨rfl, rfl⟩
  · exact ⟨rfl, by grind [Instr.wellFormed, isBarrier]⟩

/-- The row the decoder chooses for an MCR likewise. -/
theorem refineMcr_form (c : Cond) (opc1 : BitVec 3) (crn rd : BitVec 4) (opc2 : BitVec 3) (crm : BitVec 4) :
    mcrForm (refineMcr c opc1 crn rd opc2 crm) = some (c, rd, ⟨opc1, crn, crm, opc2⟩) ∧
    (refineMcr c opc1 crn rd opc2 crm).wellFormed = true := by
  unfold refineMcr
  split
  case h_1 hcrn =>
    obtain rfl := eq_ofNat_of_toNat hcrn
    exact ⟨rfl, by simp [Instr.wellFormed, hasMcrRow]⟩
  case h_2 hcrn =>
    obtain rfl := eq_ofNat_of_toNat hcrn
    split
    next haddr =>
      obtain ⟨rfl, rfl⟩ := haddr
      split
      case h_4 => exact ⟨rfl, by grind [Instr.wellFormed, hasMcrRow]⟩
      all_goals
        obtain rfl := eq_ofNat_of_toNat ‹opc2.toNat = _›
        exact ⟨rfl, rfl⟩
    next haddr => exact ⟨rfl, by grind [Instr.wellFormed, hasMcrRow]⟩
  case h_8 hcrn =>
    obtain rfl := eq_ofNat_of_toNat hcrn
    exact refineMcrC7_form c opc1 rd opc2 crm
  case h_16 =>
    have hlt := crn.isLt
    obtain rfl : crn = 15 := eq_ofNat_of_toNat (by grind)
    exact ⟨rfl, rfl⟩
  all_goals
    obtain rfl := eq_ofNat_of_toNat ‹crn.toNat = _›
    exact ⟨rfl, rfl⟩

/-- An MRC whose address has no row of its own is an `mrc`. -/
theorem eq_mrc_of_no_row {i : Instr} {c : Cond} {rd : BitVec 4} {a : RegAddr} (h : mrcForm i = some (c, rd, a))
    (hrow : hasMrcRow a.opc1 a.crn a.opc2 a.crm = false) : i = .mrc c a.opc1 a.crn rd a.opc2 a.crm := by
  cases i <;> simp only [mrcForm, Option.some.injEq, Prod.mk.injEq, reduceCtorEq] at h <;> obtain ⟨rfl, rfl, rfl⟩ := h
  case mrc => rfl
  all_goals exact Bool.noConfusion hrow

/-- An MCR whose address has no row of its own is an `mcr`. -/
theorem eq_mcr_of_no_row {i : Instr} {c : Cond} {rd : BitVec 4} {a : RegAddr} (h : mcrForm i = some (c, rd, a))
    (hrow : hasMcrRow a.opc1 a.crn a.opc2 a.crm = false) : i = .mcr c a.opc1 a.crn rd a.opc2 a.crm := by
  cases i <;> simp only [mcrForm, Option.some.injEq, Prod.mk.injEq, reduceCtorEq] at h <;> obtain ⟨rfl, rfl, rfl⟩ := h
  case mcr => rfl
  all_goals exact Bool.noConfusion hrow

/-- A write of c7 that is no barrier operation stays one. -/
theorem refineMcrC7_of_not_barrier (c : Cond) (rd : BitVec 4) {opc1 opc2 : BitVec 3} {crm : BitVec 4}
    (h : isBarrier opc1 opc2 crm = false) : refineMcrC7 c opc1 rd opc2 crm = .mcrC7 c opc1 rd opc2 crm := by
  grind [refineMcrC7, isBarrier]

/-- A well-formed MRC is the row of its address. -/
theorem refineMrc_of_mrcForm {i : Instr} {c : Cond} {rd : BitVec 4} {a : RegAddr} (h : mrcForm i = some (c, rd, a))
    (hwf : i.wellFormed = true) : refineMrc c a.opc1 a.crn rd a.opc2 a.crm = i := by
  cases i <;> simp only [mrcForm, Option.some.injEq, Prod.mk.injEq, reduceCtorEq] at h <;> obtain ⟨rfl, rfl, rfl⟩ := h
  case mrc => exact eq_mrc_of_no_row (refineMrc_form ..).1 (by simpa [Instr.wellFormed] using hwf)
  all_goals rfl

/-- A well-formed MCR is the row of its address. -/
theorem refineMcr_of_mcrForm {i : Instr} {c : Cond} {rd : BitVec 4} {a : RegAddr} (h : mcrForm i = some (c, rd, a))
    (hwf : i.wellFormed = true) : refineMcr c a.opc1 a.crn rd a.opc2 a.crm = i := by
  cases i <;> simp only [mcrForm, Option.some.injEq, Prod.mk.injEq, reduceCtorEq] at h <;> obtain ⟨rfl, rfl, rfl⟩ := h
  case mcr => exact eq_mcr_of_no_row (refineMcr_form ..).1 (by simpa [Instr.wellFormed] using hwf)
  case mcrC7 => exact refineMcrC7_of_not_barrier _ _ (by simpa [Instr.wellFormed] using hwf)
  all_goals rfl

/-! ### Decoding an encoded instruction -/

theorem decode_encode_of_mrcForm {i : Instr} {c : Cond} {rd : BitVec 4} {a : RegAddr} (h : mrcForm i = some (c, rd, a))
    (hwf : i.wellFormed = true) : decode (encode i) = .instr i := by
  rw [encode_of_mrcForm h, decode_mcrWord, condOfBits_bits]
  exact congrArg Decoded.instr (refineMrc_of_mrcForm h hwf)

theorem decode_encode_of_mcrForm {i : Instr} {c : Cond} {rd : BitVec 4} {a : RegAddr} (h : mcrForm i = some (c, rd, a))
    (hwf : i.wellFormed = true) : decode (encode i) = .instr i := by
  rw [encode_of_mcrForm h, decode_mcrWord, condOfBits_bits]
  exact congrArg Decoded.instr (refineMcr_of_mcrForm h hwf)

/-- Settles O1, along the classes of R103: every format decodes to the row its fields name. -/
theorem decodeOfEncode : Obligations.DecodeOfEncode := by
  intro i hwf
  match i, hwf with
  | .cdp2 .., _ => exact decode_cdpWord ..
  | .cdp .., _ => rw [encode, decode_cdpWord, condOfBits_bits]
  | .mrc2 .., _ | .mcr2 .., _ => exact decode_mcrWord ..
  | .mrrc2 .., _ | .mcrr2 .., _ => exact decode_mcrrWord ..
  | .mrrc .., _ | .mcrr .., _ =>
    rw [encode, decode_mcrrWord, condOfBits_bits]
    rfl
  | .ldcStcCorner .., _ => rw [encode, decode_ldcWord_corner, condOfBits_condBits]
  | .ldc2 .., hwf | .stc2 .., hwf => exact decode_ldcWord _ _ _ _ _ _ _ _ _ (by simpa [Instr.wellFormed] using hwf)
  | .ldc .., hwf | .stc .., hwf =>
    rw [encode, decode_ldcWord _ _ _ _ _ _ _ _ _ (by simpa [Instr.wellFormed] using hwf), condOfBits_bits]
    rfl
  | .mrc .., hwf | .mrcMidr .., hwf | .mrcCtr .., hwf | .mrcTcmtr .., hwf | .mrcTlbtr .., hwf | .mrcMpuir .., hwf
  | .mrcId5 .., hwf | .mrcId6 .., hwf | .mrcId7 .., hwf | .mrcCr .., hwf | .mrcAcr .., hwf | .mrcCpacr .., hwf
  | .mrcC2 .., hwf | .mrcC3 .., hwf | .mrcC4 .., hwf | .mrcC5 .., hwf | .mrcC6 .., hwf | .mrcC7 .., hwf
  | .mrcC8 .., hwf | .mrcC9 .., hwf | .mrcC10 .., hwf | .mrcC11 .., hwf | .mrcC12 .., hwf | .mrcC13 .., hwf
  | .mrcC14 .., hwf | .mrcC15 .., hwf => exact decode_encode_of_mrcForm rfl hwf
  | .mcr .., hwf | .mcrCr .., hwf | .mcrAcr .., hwf | .mcrCpacr .., hwf | .mcrC2 .., hwf | .mcrC3 .., hwf
  | .mcrC4 .., hwf | .mcrC5 .., hwf | .mcrC6 .., hwf | .mcrC7 .., hwf | .mcrC8 .., hwf | .mcrC9 .., hwf
  | .mcrC10 .., hwf | .mcrC11 .., hwf | .mcrC12 .., hwf | .mcrC13 .., hwf | .mcrC14 .., hwf | .mcrC15 .., hwf
  | .prefetchFlush .., hwf | .dataSyncBarrier .., hwf | .dataMemBarrier .., hwf =>
    exact decode_encode_of_mcrForm rfl hwf

/-! ### A word from its fields (R91, R101, R102)

The encoder's four formats, laid over a word with their fixed bits, are the word: `*Word_row` with a mask of ones. -/

theorem field_allOnes (lo len : Nat) (h : lo + len ≤ 32) :
    field (BitVec.allOnes 32) lo len = BitVec.allOnes len := by
  apply BitVec.eq_of_getLsbD_eq
  intro i hi
  rw [field_getLsbD, BitVec.getLsbD_allOnes, BitVec.getLsbD_allOnes, decide_eq_true hi,
    decide_eq_true (show lo + i < 32 by omega), Bool.true_and]

/-- A field that a mask of ones leaves. -/
theorem and_field_allOnes (lo : Nat) {len : Nat} (x : BitVec len) (h : lo + len ≤ 32) :
    x &&& field (BitVec.allOnes 32) lo len = x := by
  rw [field_allOnes lo len h, BitVec.and_allOnes]

theorem cdpWord_fields {w : Word} (h24 : field w 24 4 = 0b1110) (h8 : field w 8 4 = 0b1111) (h4 : field w 4 1 = 0) :
    cdpWord (field w 28 4) (field w 20 4) (field w 16 4) (field w 12 4) (field w 5 3) (field w 0 4) = w := by
  rw [← BitVec.and_allOnes (x := cdpWord ..)]
  apply cdpWord_row <;> rw [and_field_allOnes _ _ (by omega)]
  · exact h24.symm
  · exact h8.symm
  · exact h4.symm

theorem mcrWord_fields {w : Word} (h24 : field w 24 4 = 0b1110) (h8 : field w 8 4 = 0b1111) (h4 : field w 4 1 = 1) :
    mcrWord (field w 28 4) (field w 21 3) (field w 20 1) (field w 16 4) (field w 12 4) (field w 5 3) (field w 0 4) =
      w := by
  rw [← BitVec.and_allOnes (x := mcrWord ..)]
  apply mcrWord_row <;> rw [and_field_allOnes _ _ (by omega)]
  · exact h24.symm
  · exact h8.symm
  · exact h4.symm

theorem mcrrWord_fields {w : Word} (h21 : field w 21 7 = 0b1100010) (h8 : field w 8 4 = 0b1111) :
    mcrrWord (field w 28 4) (field w 20 1) (field w 16 4) (field w 12 4) (field w 4 4) (field w 0 4) = w := by
  rw [← BitVec.and_allOnes (x := mcrrWord ..)]
  apply mcrrWord_row <;> rw [and_field_allOnes _ _ (by omega)]
  · exact h21.symm
  · exact h8.symm

theorem ldcWord_fields {w : Word} (h25 : field w 25 3 = 0b110) (h8 : field w 8 4 = 0b1111) :
    ldcWord (field w 28 4) (field w 24 1) (field w 23 1) (field w 22 1) (field w 21 1) (field w 20 1) (field w 16 4)
      (field w 12 4) (field w 0 8) = w := by
  rw [← BitVec.and_allOnes (x := ldcWord ..)]
  apply ldcWord_row <;> rw [and_field_allOnes _ _ (by omega)]
  · exact h25.symm
  · exact h8.symm

/-! ### The decoder, class by class (R103) -/

theorem field_one_iff (w : Word) (n : Nat) : field w n 1 = 1 ↔ w.getLsbD n = true := by
  have hbit : ∀ x : BitVec 1, x = 1 ↔ x.getLsbD 0 = true := by decide
  rw [hbit, field_getLsbD]
  rfl

theorem field_zero_iff (w : Word) (n : Nat) : field w n 1 = 0 ↔ w.getLsbD n = false := by
  have hbit : ∀ x : BitVec 1, x = 0 ↔ x.getLsbD 0 = false := by decide
  rw [hbit, field_getLsbD]
  rfl

theorem condOf_eq_none_iff (w : Word) : condOf w = none ↔ field w 28 4 = 0b1111 :=
  condOfBits_eq_none _

theorem condBits_condOf (w : Word) : condBits (condOf w) = field w 28 4 :=
  condBits_condOfBits _

/-- The decoder reads every field of the format it recognises, so that nothing of the word is lost. -/
theorem encode_decodeCdp {w : Word} (h24 : field w 24 4 = 0b1110) (h8 : field w 8 4 = 0b1111) (h4 : field w 4 1 = 0) :
    (decodeCdp w).wellFormed = true ∧ encode (decodeCdp w) = w := by
  have hw := cdpWord_fields h24 h8 h4
  rw [← condBits_condOf] at hw
  unfold decodeCdp
  cases hc : condOf w <;> rw [hc] at hw <;> exact ⟨rfl, hw⟩

theorem encode_decodeMcr {w : Word} (h24 : field w 24 4 = 0b1110) (h8 : field w 8 4 = 0b1111) (h4 : field w 4 1 = 1) :
    (decodeMcr w).wellFormed = true ∧ encode (decodeMcr w) = w := by
  have hw := mcrWord_fields h24 h8 h4
  rw [← condBits_condOf] at hw
  unfold decodeMcr
  cases hc : condOf w with
  | none =>
    rw [hc] at hw
    obtain hl | hl := BitVec.eq_zero_or_eq_one (field w 20 1) <;> rw [hl] at hw ⊢ <;> exact ⟨rfl, hw⟩
  | some c =>
    rw [hc] at hw
    obtain hl | hl := BitVec.eq_zero_or_eq_one (field w 20 1) <;> rw [hl] at hw ⊢
    · obtain ⟨hform, hwf⟩ := refineMcr_form c (field w 21 3) (field w 16 4) (field w 12 4) (field w 5 3) (field w 0 4)
      exact ⟨hwf, (encode_of_mcrForm hform).trans hw⟩
    · obtain ⟨hform, hwf⟩ := refineMrc_form c (field w 21 3) (field w 16 4) (field w 12 4) (field w 5 3) (field w 0 4)
      exact ⟨hwf, (encode_of_mrcForm hform).trans hw⟩

theorem encode_decodeMcrr {w : Word} (h21 : field w 21 7 = 0b1100010) (h8 : field w 8 4 = 0b1111) :
    (decodeMcrr w).wellFormed = true ∧ encode (decodeMcrr w) = w := by
  have hw := mcrrWord_fields h21 h8
  rw [← condBits_condOf] at hw
  unfold decodeMcrr
  cases hc : condOf w <;> rw [hc] at hw <;>
    (obtain hl | hl := BitVec.eq_zero_or_eq_one (field w 20 1) <;> rw [hl] at hw ⊢ <;> exact ⟨rfl, hw⟩)

/-- bits[27:21] of an LDC or STC are its fixed bits and P, U, N, W. -/
theorem field_21_7_eq {w : Word} (h25 : field w 25 3 = 0b110) (h8 : field w 8 4 = 0b1111) :
    field w 21 7 = 0b110#3 ++ field w 24 1 ++ field w 23 1 ++ field w 22 1 ++ field w 21 1 := by
  conv_lhs => rw [← ldcWord_fields h25 h8, field_21_7_ldcWord]

theorem encode_corner {w : Word} (h21 : field w 21 7 = 0b1100000) (h25 : field w 25 3 = 0b110)
    (h8 : field w 8 4 = 0b1111) :
    encode (.ldcStcCorner (condOf w) (field w 20 1) (field w 16 4) (field w 12 4) (field w 0 8)) = w := by
  have hw := ldcWord_fields h25 h8
  obtain ⟨-, -, hcorner⟩ := addressing_fields (field w 24 1) (field w 23 1) (field w 22 1) (field w 21 1)
  obtain ⟨hp, hu, hn, hw'⟩ := hcorner.mp ((field_21_7_eq h25 h8).symm.trans h21)
  rw [hp, hu, hn, hw', ← condBits_condOfBits (field w 28 4)] at hw
  exact hw

theorem encode_decodeLdcStc {w : Word} (h25 : field w 25 3 = 0b110) (h8 : field w 8 4 = 0b1111)
    (hpuw : noAddressing (field w 24 1) (field w 23 1) (field w 21 1) = false) :
    (decodeLdcStc w).wellFormed = true ∧ encode (decodeLdcStc w) = w := by
  have hw := ldcWord_fields h25 h8
  have hwf := congrArg (!·) hpuw
  rw [← condBits_condOf] at hw
  unfold decodeLdcStc
  cases hc : condOf w <;> rw [hc] at hw <;>
    (obtain hl | hl := BitVec.eq_zero_or_eq_one (field w 20 1) <;> rw [hl] at hw ⊢ <;> exact ⟨hwf, hw⟩)

/-- P = U = W = 0 is MCRR, MRRC or the corner (R102). -/
theorem addressing_of_not_corner : ∀ p u n w : BitVec 1, 0b110#3 ++ p ++ u ++ n ++ w ≠ (0b1100010 : BitVec 7) →
    0b110#3 ++ p ++ u ++ n ++ w ≠ (0b1100000 : BitVec 7) → noAddressing p u w = false := by
  decide

/-- R103. -/
theorem isCp15Word_iff (w : Word) :
    isCp15Word w = true ↔ field w 8 4 = 0b1111 ∧ (field w 24 4 = 0b1110 ∨ field w 25 3 = 0b110) := by
  simp only [isCp15Word, inCoprocessorSpace, cpNumOf, Bool.and_eq_true, Bool.or_eq_true, beq_iff_eq]

theorem encode_decodeCp15 {w : Word} (h : isCp15Word w = true) :
    (decodeCp15 w).wellFormed = true ∧ encode (decodeCp15 w) = w := by
  obtain ⟨h8, hspace⟩ := (isCp15Word_iff w).mp h
  unfold decodeCp15
  split
  next h24 =>
    split
    next h4 => exact encode_decodeCdp h24 h8 h4
    next h4 => exact encode_decodeMcr h24 h8 ((BitVec.eq_zero_or_eq_one _).resolve_left h4)
  next h24 =>
    have h25 := hspace.resolve_left h24
    split
    next h21 => exact encode_decodeMcrr h21 h8
    next hmcrr =>
      split
      next h21 => exact ⟨rfl, encode_corner h21 h25 h8⟩
      next hcorner =>
        rw [field_21_7_eq h25 h8] at hmcrr hcorner
        exact encode_decodeLdcStc h25 h8 (addressing_of_not_corner _ _ _ _ hmcrr hcorner)

/-- A word decodes to an instruction when it is a CP15 word (R103), to the one of its class. -/
theorem decode_eq_instr_iff {w : Word} {i : Instr} : decode w = .instr i ↔ isCp15Word w = true ∧ decodeCp15 w = i := by
  unfold decode isCp15Word
  by_cases hspace : inCoprocessorSpace w = true
  · by_cases hnum : cpNumOf w = 0b1111
    · simp [hspace, hnum]
    · simp only [hspace, hnum, if_true, if_false, beq_eq_false_iff_ne.mpr hnum]
      split <;> simp
  · simp [hspace]

/-- Settles O2: format by format, the fields the decoder reads are the word. -/
theorem encodeOfDecode : Obligations.EncodeOfDecode := by
  intro w i h
  obtain ⟨hcp15, rfl⟩ := decode_eq_instr_iff.mp h
  exact encode_decodeCp15 hcp15

/-! ### The classes (R103) -/

theorem instrClass_decodeCdp (w : Word) :
    instrClass (decodeCdp w) = if field w 28 4 = 0b1111 then .cdp2 else .cdp := by
  simp only [← condOf_eq_none_iff, decodeCdp]
  cases condOf w <;> rfl

theorem instrClass_decodeMcr (w : Word) :
    instrClass (decodeMcr w) =
      if field w 28 4 = 0b1111 then (if w.getLsbD 20 then .mrc2 else .mcr2)
      else if w.getLsbD 20 then .mrc
      else .mcr := by
  simp only [← condOf_eq_none_iff, ← field_one_iff, decodeMcr]
  cases condOf w with
  | none => obtain hl | hl := BitVec.eq_zero_or_eq_one (field w 20 1) <;> rw [hl] <;> rfl
  | some c =>
    obtain hl | hl := BitVec.eq_zero_or_eq_one (field w 20 1) <;> rw [hl]
    · exact instrClass_of_mcrForm (refineMcr_form ..).1
    · exact instrClass_of_mrcForm (refineMrc_form ..).1

theorem instrClass_decodeMcrr (w : Word) :
    instrClass (decodeMcrr w) =
      if field w 28 4 = 0b1111 then (if w.getLsbD 20 then .mrrc2 else .mcrr2)
      else if w.getLsbD 20 then .mrrc
      else .mcrr := by
  simp only [← condOf_eq_none_iff, ← field_one_iff, decodeMcrr]
  cases condOf w <;> (obtain hl | hl := BitVec.eq_zero_or_eq_one (field w 20 1) <;> rw [hl] <;> rfl)

theorem instrClass_decodeLdcStc (w : Word) :
    instrClass (decodeLdcStc w) =
      if field w 28 4 = 0b1111 then (if w.getLsbD 20 then .ldc2 else .stc2)
      else if w.getLsbD 20 then .ldc
      else .stc := by
  simp only [← condOf_eq_none_iff, ← field_one_iff, decodeLdcStc]
  cases condOf w <;> (obtain hl | hl := BitVec.eq_zero_or_eq_one (field w 20 1) <;> rw [hl] <;> rfl)

theorem instrClass_decodeCp15 (w : Word) :
    instrClass (decodeCp15 w) =
      if field w 24 4 = 0b1110 then
        if w.getLsbD 4 = false then instrClass (decodeCdp w) else instrClass (decodeMcr w)
      else if field w 21 7 = 0b1100010 then instrClass (decodeMcrr w)
      else if field w 21 7 = 0b1100000 then .corner
      else instrClass (decodeLdcStc w) := by
  simp only [← field_zero_iff, decodeCp15, apply_ite instrClass]
  rfl

/-- Settles O3, along the tests of the decoder. -/
theorem cp15WordsClassified : Obligations.Cp15WordsClassified := by
  intro w
  refine ⟨?_, fun i h => ?_⟩
  · simp only [decode_eq_instr_iff, exists_and_left, exists_eq', and_true, isCp15Word_iff]
    rfl
  · obtain ⟨-, rfl⟩ := decode_eq_instr_iff.mp h
    rw [instrClass_decodeCp15, instrClass_decodeCdp, instrClass_decodeMcr, instrClass_decodeMcrr,
      instrClass_decodeLdcStc]
    rfl

end Sys2Proof.Machine
end

section
/-! PROOFS. The tests of R142 before the access: the UNPREDICTABLE encodings are refused, a failed condition only moves
the pc; the condition table, a placed word, and the access check of the other coprocessors. -/

namespace Sys2Proof.Machine

open Sys2Proof

/-! ### UNPREDICTABLE encodings (R104, R142 step 2) -/

section

variable {c : Cond} {rd : BitVec 4} {a : RegAddr} {s : State} {r : Refusal}

theorem mrcOp_of_encodingRefusal (hpresent : s.cfg.cp15Absent = false)
    (hr : encodingRefusal s.cfg .read rd a = some r) : mrcOp c rd a s = .refused r := by
  simp [mrcOp, hpresent, hr]

theorem mcrOp_of_encodingRefusal (hpresent : s.cfg.cp15Absent = false)
    (hr : encodingRefusal s.cfg .write rd a = some r) : mcrOp c rd a s = .refused r := by
  simp [mcrOp, hpresent, hr]

theorem mcrrOp_rdIsPc {rn op crm : BitVec 4} (hpresent : s.cfg.cp15Absent = false) (hpc : rd = 15 ∨ rn = 15) :
    mcrrOp c rn rd op crm s = .refused .rdIsPc := by
  rw [mcrrOp, hpresent, if_neg Bool.false_ne_true, if_pos hpc]

theorem mrrcOp_rdIsPc {rn op crm : BitVec 4} (hpresent : s.cfg.cp15Absent = false) (hpc : rd = 15 ∨ rn = 15) :
    mrrcOp c rn rd op crm s = .refused .rdIsPc := by
  rw [mrrcOp, hpresent, if_neg Bool.false_ne_true, if_pos hpc]

/-- An address that is UNPREDICTABLE to read and to write is refused by an MRC and by an MCR. -/
theorem exec_of_addressRefusal {i : Instr} (hform : mrcForm i = some (c, rd, a) ∨ mcrForm i = some (c, rd, a))
    (hpresent : s.cfg.cp15Absent = false) (hrd : rd ≠ 15) (hr : ∀ d, addressRefusal s.cfg d a = some r) :
    exec i s = .refused r := by
  have hr (d : Direction) : encodingRefusal s.cfg d rd a = some r := (encodingRefusal_of_rd_ne hrd _ _ _).trans (hr d)
  obtain hform | hform := hform
  · rw [exec_mrcForm hform, mrcOp_of_encodingRefusal hpresent (hr _)]
  · rw [exec_mcrForm hform, mcrOp_of_encodingRefusal hpresent (hr _)]

end

section

variable {cfg : Cfg} {d : Direction} {a : RegAddr}

theorem addressRefusal_opcode1 (h : a.opc1 ≠ 0) (hmem : a.opc1 ∉ cfg.ext.opc1Assigned) :
    addressRefusal cfg d a = some .opcode1Unassigned := by
  simp only [addressRefusal, if_pos h, Cfg.opc1Assigned, List.contains_iff_mem, if_neg hmem]

theorem addressRefusal_c0_read (h : a.opc1 = 0) (hcrn : a.crn = 0) (hcrm : a.crm ≠ 0) :
    addressRefusal cfg .read a = some .crmNotC0 := by
  simpa [addressRefusal, h, hcrn] using hcrm

theorem addressRefusal_c0_write (h : a.opc1 = 0) (hcrn : a.crn = 0) :
    addressRefusal cfg .write a = some .idRegisterWrite := by
  simp [addressRefusal, h, hcrn]

theorem addressRefusal_c1_crm (h : a.opc1 = 0) (hcrn : a.crn = 1) (hcrm : a.crm ≠ 0) :
    addressRefusal cfg d a = some .crmNotC0 := by
  simpa [addressRefusal, h, hcrn] using hcrm

theorem addressRefusal_c1_selector (h : a.opc1 = 0) (hcrn : a.crn = 1) (hcrm : a.crm = 0) (hopc2 : 3 ≤ a.opc2.toNat) :
    addressRefusal cfg d a = some .controlSelectorReserved := by
  simp [addressRefusal, h, hcrn, hcrm, hopc2]

theorem addressRefusal_c4 (h : a.opc1 = 0) (hcrn : a.crn = 4) : addressRefusal cfg d a = some .register4Reserved := by
  simp [addressRefusal, h, hcrn]

theorem addressRefusal_c12_c14 (h : a.opc1 = 0) (hcrn : a.crn = 12 ∨ a.crn = 14) (harch : cfg.arch = .preV6) :
    addressRefusal cfg d a = some .register12Or14BeforeV6 := by
  obtain hcrn | hcrn := hcrn <;> simp [addressRefusal, h, hcrn, harch]

end

/-- Settles O17. -/
theorem reservedSelectorRefused : Obligations.ReservedSelectorRefused := by
  intro i c rd opc2 s hform hopc2 hrd hpresent
  exact exec_of_addressRefusal hform hpresent hrd fun _ => addressRefusal_c1_selector rfl rfl rfl hopc2

/-- Settles O24: clause by clause, the branch of the encoding's tests. -/
theorem unpredictableEncodingsRefused : Obligations.UnpredictableEncodingsRefused := by
  intro i c rd a s hpresent
  refine ⟨fun hform => ⟨?_, ?_, ?_, ?_, ?_, ?_⟩, ?_, ?_, ?_⟩
  · rintro rfl
    obtain hform | hform := hform
    · rw [exec_mrcForm hform, mrcOp_of_encodingRefusal hpresent (encodingRefusal_rdIsPc ..)]
    · rw [exec_mcrForm hform, mcrOp_rdIsPc a hpresent]
  · exact fun hrd h1 hmem => exec_of_addressRefusal hform hpresent hrd fun _ => addressRefusal_opcode1 h1 hmem
  · exact fun hrd h1 hcrn hcrm => exec_of_addressRefusal hform hpresent hrd fun _ => addressRefusal_c1_crm h1 hcrn hcrm
  · exact fun hrd h1 hcrn hcrm hopc2 =>
      exec_of_addressRefusal hform hpresent hrd fun _ => addressRefusal_c1_selector h1 hcrn hcrm hopc2
  · exact fun hrd h1 hcrn => exec_of_addressRefusal hform hpresent hrd fun _ => addressRefusal_c4 h1 hcrn
  · exact fun hrd h1 hcrn harch =>
      exec_of_addressRefusal hform hpresent hrd fun _ => addressRefusal_c12_c14 h1 hcrn harch
  · intro hform hrd h1 hcrn hcrm
    rw [exec_mrcForm hform, mrcOp_of_encodingRefusal hpresent
      ((encodingRefusal_of_rd_ne hrd ..).trans (addressRefusal_c0_read h1 hcrn hcrm))]
  · intro hform hrd h1 hcrn
    rw [exec_mcrForm hform, mcrOp_of_encodingRefusal hpresent
      ((encodingRefusal_of_rd_ne hrd ..).trans (addressRefusal_c0_write h1 hcrn))]
  · exact fun rn op crm hpc => ⟨mcrrOp_rdIsPc hpresent hpc, mrrcOp_rdIsPc hpresent hpc⟩

/-! ### A failed condition (R92, R142 step 3) -/

section

variable {c : Cond} {s : State} (hc : condPassed c s = false)

include hc

theorem withoutCp15_of_failed : withoutCp15 c s = .next s.advance := by
  simp [withoutCp15, hc]

theorem undefinedForm_of_failed : undefinedForm (some c) s = .next s.advance := by
  simp [undefinedForm, condFieldPassed, hc]

theorem mrcOp_of_failed {rd : BitVec 4} {a : RegAddr}
    (h : s.cfg.cp15Absent = true ∨ encodingRefusal s.cfg .read rd a = none) : mrcOp c rd a s = .next s.advance := by
  unfold mrcOp
  split
  · exact withoutCp15_of_failed hc
  next hpresent => rw [h.resolve_left hpresent, hc]; rfl

theorem mcrOp_of_failed {rd : BitVec 4} {a : RegAddr}
    (h : s.cfg.cp15Absent = true ∨ encodingRefusal s.cfg .write rd a = none) : mcrOp c rd a s = .next s.advance := by
  unfold mcrOp
  split
  · exact withoutCp15_of_failed hc
  next hpresent => rw [h.resolve_left hpresent, hc]; rfl

theorem mrrcOp_of_failed {rn rd op crm : BitVec 4} (h : s.cfg.cp15Absent = true ∨ ¬ (rd = 15 ∨ rn = 15)) :
    mrrcOp c rn rd op crm s = .next s.advance := by
  unfold mrrcOp
  split
  · exact withoutCp15_of_failed hc
  next hpresent => rw [if_neg (h.resolve_left hpresent), hc]; rfl

theorem mcrrOp_of_failed {rn rd op crm : BitVec 4} (h : s.cfg.cp15Absent = true ∨ ¬ (rd = 15 ∨ rn = 15)) :
    mcrrOp c rn rd op crm s = .next s.advance := by
  unfold mcrrOp
  split
  · exact withoutCp15_of_failed hc
  next hpresent => rw [if_neg (h.resolve_left hpresent), hc]; rfl

end

/-- The conditions of R104 in the words of R142 are the model's tests of the encoding. -/
theorem EncodingLegal.encodingRefusal_eq_none {cfg : Cfg} {d : Direction} {rd : BitVec 4} {a : RegAddr}
    (h : EncodingLegal cfg d rd a) : encodingRefusal cfg d rd a = none := by
  rw [encodingRefusal_of_rd_ne h.notPc]
  obtain ⟨-, hassigned, hcrm, hidWrite, hselector, hregister4, hreserved⟩ := h
  unfold addressRefusal
  split
  next h1 => simpa [Cfg.opc1Assigned] using hassigned h1
  next h1 =>
    have h1 := not_not.mp h1
    split
    next hcrn =>
      cases d with
      | read => simpa using hcrm h1 (.inl hcrn)
      | write => exact absurd hcrn (hidWrite h1 rfl)
    split
    next hcrn =>
      have hopc2 := hselector h1 hcrn
      rw [if_neg (not_not.mpr (hcrm h1 (.inr hcrn))), if_neg (by omega)]
    split
    next hcrn => exact absurd hcrn (hregister4 h1)
    split
    next hres => exact absurd hres.2 (by simp [hreserved h1 hres.1])
    · rfl

/-- The forms every CP15 leaves UNDEFINED, and every instruction of an absent CP15 (R141), do nothing but trap. -/
theorem exec_eq_undefinedForm {i : Instr} {s : State}
    (h : (instrClass i).isUndefined = true ∨ s.cfg.cp15Absent = true) : exec i s = undefinedForm (instrCond i) s := by
  cases i with
  | cdp2 | cdp | mrc2 | mcr2 | mrrc2 | mcrr2 | ldcStcCorner | ldc2 | ldc | stc2 | stc => rfl
  | _ => exact if_pos (h.resolve_left Bool.false_ne_true)

/-- Settles O19: each of the ways to have a legal encoding. -/
theorem failedConditionOnlyAdvances : Obligations.FailedConditionOnlyAdvances := by
  intro i c s hi hc hlegal
  suffices hexec : exec i s = .next s.advance from ⟨_, hexec, onlyAdvances_advance s⟩
  have htrap (h : (instrClass i).isUndefined = true ∨ s.cfg.cp15Absent = true) : exec i s = .next s.advance := by
    rw [exec_eq_undefinedForm h, hi, undefinedForm_of_failed hc]
  rcases hlegal with h | h | ⟨rd, a, hform, hlegal⟩ | ⟨rd, a, hform, hlegal⟩ | ⟨rn, rd, op, crm, rfl, hrd, hrn⟩ |
    ⟨rn, rd, op, crm, rfl, hrd, hrn⟩
  · exact htrap (.inl h)
  · exact htrap (.inr h)
  · rw [exec_mrcForm hform, mrcOp_of_failed hc (.inr hlegal.encodingRefusal_eq_none)]
  · rw [exec_mcrForm hform, mcrOp_of_failed hc (.inr hlegal.encodingRefusal_eq_none)]
  · exact mrrcOp_of_failed hc (.inr (not_or.mpr ⟨hrd, hrn⟩))
  · exact mcrrOp_of_failed hc (.inr (not_or.mpr ⟨hrd, hrn⟩))

/-! ### The condition table (R92) -/

/-- Settles O18. -/
theorem conditionTable : Obligations.ConditionTable := by
  intro s n z cy v c
  have hne : (n != v) = decide (n ≠ v) := by rw [bne, beq_eq_decide, decide_not]
  cases c with
  | eq | ne | cs | cc | mi | pl | vs | vc | hi | ls | al => rfl
  | ge => exact beq_eq_decide n v
  | lt => exact hne
  | gt => exact congrArg (!z && ·) (beq_eq_decide n v)
  | le => exact congrArg (z || ·) (hne)

/-! ### A placed word -/

theorem decodeBytes_bytesOfWord (w : Word) : decodeBytes (bytesOfWord w) = some (decode w, []) :=
  congrArg (fun x => some (decode x, [])) (wordOfBytes_fields w)

theorem decodeTableWord_eq_some_iff {nbits w : Nat} {i : Instr} :
    decodeTableWord nbits w = some i ↔ decode (tableWord nbits w) = .instr i := by
  rw [decodeTableWord, decodeBytes_bytesOfWord]
  cases decode (tableWord nbits w) <;> simp

/-- Settles O6: the placed word is the one fetched, and it decodes to the instruction. -/
theorem placedWordRuns : Obligations.PlacedWordRuns := by
  intro s nbits w i harm haligned hi
  have hfetch := s.mem.readWord_writeWord s.pc.toNat (tableWord nbits w)
  rw [step_eq_runDecoded (s := s.withFetchWord nbits w) harm haligned hfetch, decodeTableWord_eq_some_iff.mp hi]
  rfl

/-! ### The other coprocessors (R102, R228, R229) -/

/-- A group is unequal when two of its members have different effective rights, whichever they are (R228). -/
theorem groupUnequal_iff (cfg : Cfg) (eff : Word) (n : Nat) : groupUnequal cfg eff n = true ↔
    ∃ g ∈ cfg.cpGroups, (∃ m ∈ g, m.val = n) ∧ ∃ j ∈ g, ∃ k ∈ g, accessRights eff j.val ≠ accessRights eff k.val := by
  simp only [groupUnequal, List.any_eq_true, Bool.and_eq_true, beq_iff_eq, bne_iff_ne]
  refine exists_congr fun g => and_congr_right fun _ => and_congr_right fun ⟨m, hm, hmn⟩ => ?_
  subst hmn
  refine ⟨fun ⟨j, hj, hne⟩ => ⟨j, hj, m, hm, hne⟩, fun ⟨j, hj, k, hk, hne⟩ => ?_⟩
  by_cases hjm : accessRights eff j.val = accessRights eff m.val
  · exact ⟨k, hk, fun hkm => hne (hjm.trans hkm.symm)⟩
  · exact ⟨j, hj, hjm⟩

section

variable {n : BitVec 4} {c : Option Cond} {s : State}

theorem execCoprocessor_of_proceed (hn : n.toNat < 14) (hc : condFieldPassed c s = true)
    (h : coprocAccessCheck n.toNat s = .proceed) : execCoprocessor n c s = .refused (.coprocessorOutsideSpec n) := by
  simp [execCoprocessor, hc, h, hn]

theorem execCoprocessor_of_undefined (hn : n.toNat < 14) (hc : condFieldPassed c s = true)
    (h : coprocAccessCheck n.toNat s = .undefined) : ∃ t, execCoprocessor n c s = .next t ∧ EntersUndefined s t :=
  ⟨_, by simp [execCoprocessor, hc, h, hn, undefinedInstruction], entersUndefined_takeException s⟩

theorem execCoprocessor_of_unpredictable {r : Refusal} (hn : n.toNat < 14) (hc : condFieldPassed c s = true)
    (h : coprocAccessCheck n.toNat s = .unpredictable r) : execCoprocessor n c s = .refused r := by
  simp [execCoprocessor, hc, h, hn]

theorem execCoprocessor_of_failed (hc : condFieldPassed c s = false) : execCoprocessor n c s = .next s.advance := by
  rw [execCoprocessor, hc]
  rfl

end

theorem execCoprocessorCorner_of_passed {c : Option Cond} {s : State} (hc : condFieldPassed c s = true) :
    ∃ t, execCoprocessorCorner c s = .next t ∧ EntersUndefined s t :=
  ⟨_, if_pos hc, entersUndefined_takeException s⟩

theorem execCoprocessorCorner_of_failed {c : Option Cond} {s : State} (hc : condFieldPassed c s = false) :
    execCoprocessorCorner c s = .next s.advance := by
  simp [execCoprocessorCorner, hc]

/-- Settles O34: the tests of the access check in its order. -/
theorem coprocessorAccessCheck : Obligations.CoprocessorAccessCheck := by
  refine ⟨fun n c s hn hc => ?_, fun n c s hc => ?_, fun c s hc => ?_, fun c s => execCoprocessorCorner_of_passed,
    fun c s hc => ?_⟩
  · simp only [← groupUnequal_iff]
    split
    next hsync => exact execCoprocessor_of_unpredictable hn hc (if_pos hsync)
    next hsync =>
      have hsync := not_not.mp hsync
      split
      next hgroup =>
        exact execCoprocessor_of_unpredictable hn hc (by simp [coprocAccessCheck, hsync, hgroup])
      next hgroup =>
        refine ⟨fun h => ?_, fun h hu => ?_, fun h hu => ?_, fun h => ?_, fun h hinv => ?_⟩
        · exact execCoprocessor_of_undefined hn hc (by simp [coprocAccessCheck, hsync, hgroup, h])
        · exact execCoprocessor_of_undefined hn hc (by simp [coprocAccessCheck, hsync, hgroup, h, hu])
        · exact execCoprocessor_of_proceed hn hc (by simp [coprocAccessCheck, hsync, hgroup, h, hu])
        · exact execCoprocessor_of_proceed hn hc (by simp [coprocAccessCheck, hsync, hgroup, h])
        · exact (hasReservedRights_eq_false _).mp hinv.rightsEff n.toNat hn h
  · exact ⟨_, execCoprocessor_of_failed hc, onlyAdvances_advance s⟩
  · simp [execCoprocessor, hc]
  · exact ⟨_, execCoprocessorCorner_of_failed hc, onlyAdvances_advance s⟩

end Sys2Proof.Machine
end

section
/-! PROOFS. The register accesses: what User mode may do, what raises Undefined Instruction, and what an access makes of the
handler's answer. -/

namespace Sys2Proof.Machine

open Sys2Proof

/-! ### Frames -/

theorem SameBut.mono {l l' : List Part} {s t : State} (h : SameBut l s t) (hl : l ⊆ l') : SameBut l' s t :=
  fun p hp => h p fun hmem => hp (hl hmem)

/-- A part that one move keeps and a second leaves alone is kept by both. -/
theorem SameBut.trans_nil {l : List Part} {s u t : State} (h : SameBut l s u) (h' : SameBut [] u t) : SameBut l s t := by
  intro p hp
  have hsu := h p hp
  have hut := h' p List.not_mem_nil
  cases p with
  | spsr | mem => exact fun k => (hut k).trans (hsu k)
  | cfg | cpsr | cr | crEff | acr | cpacr | cpacrEff | ext => exact Eq.trans hut hsu

/-- Moving the pc on is outside every frame. -/
theorem sameBut_advance_iff {l : List Part} {s t : State} : SameBut l s t.advance ↔ SameBut l s t := by
  refine forall₂_congr fun p _ => ?_
  cases p <;> rfl

theorem sameBut_refl (s : State) : SameBut [] s s :=
  sameBut_advance_iff.mp (onlyAdvances_advance s).2.2

theorem sameBut_moveExt (s : State) (call : ExtCall) : SameBut [.ext] s (s.moveExt call) := by
  intro p hp
  cases p with
  | spsr | mem => exact fun _ => rfl
  | cfg | cpsr | cr | crEff | acr | cpacr | cpacrEff => rfl
  | ext => simp at hp

theorem sameBut_writeRegPair (s : State) (rd rn : BitVec 4) (v1 v2 : Word) :
    SameBut [] s (s.writeRegPair rd rn v1 v2).advance := by
  rcases s.writeRegPair_cases rd rn v1 v2 with ⟨v, e⟩ | e <;> rw [e]
  · exact sameBut_writeReg s rd v
  · exact (sameBut_advance_iff.mp (sameBut_writeReg s rd v1)).trans_nil (sameBut_writeReg _ rn v2)

theorem State.writeRegPair_pc (s : State) (rd rn : BitVec 4) (v1 v2 : Word) :
    (s.writeRegPair rd rn v1 v2).pc = s.pc := by
  rcases s.writeRegPair_cases rd rn v1 v2 with ⟨v, e⟩ | e <;> rw [e] <;> rfl

theorem sameRegsBut_writeRegPair (s : State) (rd rn : BitVec 4) (v1 v2 : Word) :
    SameRegsBut [rd, rn] s (s.writeRegPair rd rn v1 v2).advance := by
  intro k hk
  obtain ⟨hd, hn⟩ : k ≠ regSlot s.modeBits rd ∧ k ≠ regSlot s.modeBits rn := by simpa using hk
  rw [State.advance_regs]
  rcases s.writeRegPair_cases rd rn v1 v2 with ⟨v, e⟩ | e <;> rw [e]
  · rw [State.regs_writeReg, if_neg hd]
  · rw [State.regs_writeReg, State.modeBits_writeReg, if_neg hn, State.regs_writeReg, if_neg hd]

/-- A frame of the registers, from a state with the same registers in the same mode. -/
theorem SameRegsBut.congr {l : List (BitVec 4)} {s u t : State} (h : SameRegsBut l u t) (hregs : u.regs = s.regs)
    (hcpsr : u.cpsr = s.cpsr) : SameRegsBut l s t := by
  simpa only [SameRegsBut, State.modeBits, hregs, hcpsr] using h

/-- An answer of the handler that is done leaves the core, but for the effective copies and the owned state, as it was. -/
theorem extAnswer_done_keeps {call : ExtCall} {s u : State} (h : extAnswer call s = .done u) :
    u.regs = s.regs ∧ u.pc = s.pc ∧ u.cpsr = s.cpsr ∧ SameBut [.crEff, .cpacrEff, .ext] s u := by
  rcases extAnswer_done h with rfl | rfl | rfl
  · exact ⟨rfl, rfl, rfl, (sameBut_refl u).mono (List.nil_subset _)⟩
  · exact ⟨rfl, rfl, rfl, (sameBut_moveExt s call).mono (by simp)⟩
  · exact ⟨rfl, rfl, rfl, (sameBut_advance_iff.mp (sameBut_synchronise s)).mono (by simp)⟩

/-! ### A step in User mode (R138, R276) -/

/-- What the user-access list of a well-formed implementation has: writes outside primary registers 0 and 1, and MCRR. -/
theorem Cfg.userOpWf_of_userAllows {c : Cfg} {target : ExtTarget} (hwf : c.wf = true)
    (h : c.userAllows target = true) : userOpWf target = true := by
  obtain ⟨-, hmem⟩ : c.arch = .v6 ∧ target ∈ c.userOps := by simpa [Cfg.userAllows] using h
  have hall : c.userOps.all userOpWf = true := by
    simp only [Cfg.wf, Bool.and_eq_true] at hwf
    exact hwf.1.2
  exact List.all_eq_true.mp hall target hmem

/-- A served call that moves the pc on writes no register, and neither control register nor status. -/
theorem sameRegs_sameBut_of_done {call : ExtCall} {s u : State} (h : extAnswer call s = .done u) :
    SameRegs s u.advance ∧ SameBut [.crEff, .cpacrEff, .ext] s u.advance := by
  obtain ⟨hregs, -, -, hsame⟩ := extAnswer_done_keeps h
  exact ⟨fun k => congrArg (·[k]) hregs, sameBut_advance_iff.mpr hsame⟩

/-- A step in User mode traps, or writes nothing but the pc, the effective copies and the handler's own state: the reads
trap, and the user-access list has no write of a control register. -/
theorem userMode_step {s t : State} (hwf : s.cfg.wf = true) (hu : s.inUserMode = true) (h : step s = .next t) :
    EntersUndefined s t ∨ (SameRegs s t ∧ SameBut [.crEff, .cpacrEff, .ext] s t) := by
  have hpriv (hp : s.inUserMode = false) : False := by simp [hu] at hp
  have hcontrol {opc2 : BitVec 3} (ha : s.inUserMode = true → s.cfg.userAllows (.write ⟨0, 1, 0, opc2⟩) = true) :
      False := by
    simpa [userOpWf] using Cfg.userOpWf_of_userAllows hwf (ha hu)
  cases step_next h with
  | passes => exact .inr ⟨fun _ => rfl, (onlyAdvances_advance s).2.2.mono (List.nil_subset _)⟩
  | traps => exact .inl (entersUndefined_takeException s)
  | reads _ _ user => exact (hpriv user).elim
  | handlerReads _ _ _ _ user => exact (hpriv user).elim
  | handlerReadsPair _ _ _ _ _ _ _ user => exact (hpriv user).elim
  | writesControl _ user => exact (hcontrol user).elim
  | writesAuxiliary _ user => exact (hcontrol user).elim
  | writesAccess _ _ user => exact (hcontrol user).elim
  | handlerWrites _ _ _ _ _ done => exact .inr (sameRegs_sameBut_of_done done)
  | handlerWritesPair _ _ _ _ _ _ done => exact .inr (sameRegs_sameBut_of_done done)

/-- Settles O44: neither outcome of a step in User mode touches one of the three registers. -/
theorem userModeCannotTouchControl : Obligations.UserModeCannotTouchControl := by
  intro s t hwf hu h
  have houtcome := userMode_step hwf hu h
  have hsame : SameBut [.spsr, .cpsr, .crEff, .cpacrEff, .ext] s t := by
    rcases houtcome with htrap | ⟨-, hsame⟩
    · exact htrap.others
    · exact hsame.mono (by simp)
  exact ⟨hsame .cr (by decide), hsame .acr (by decide), hsame .cpacr (by decide), houtcome⟩

/-! ### Accesses that trap (R125 to R142) -/

theorem exists_entersUndefined {o : Host.Outcome State Fault Refusal} {s : State} (h : o = undefinedInstruction s) :
    ∃ t, o = .next t ∧ EntersUndefined s t :=
  ⟨_, h, entersUndefined_takeException s⟩

/-- The condition field passes when the condition does, if there is one. -/
theorem undefinedForm_of_passed {c : Option Cond} {s : State} (h : ∀ c', c = some c' → condPassed c' s = true) :
    undefinedForm c s = undefinedInstruction s := by
  have hc : condFieldPassed c s = true := by
    cases c with
    | none => rfl
    | some c' => exact h c' rfl
  exact if_pos hc

/-- Settles O22. -/
theorem undefinedFormsTrap : Obligations.UndefinedFormsTrap := by
  intro i s hform hc
  exact exists_entersUndefined ((exec_eq_undefinedForm (.inl hform)).trans (undefinedForm_of_passed hc))

/-- Settles O25: with CP15 absent every instruction is an UNDEFINED form. -/
theorem cp15AbsentTraps : Obligations.Cp15AbsentTraps := by
  intro i s harch hpresent
  have hexec : exec i s = undefinedForm (instrCond i) s :=
    exec_eq_undefinedForm (.inr (by simp [Cfg.cp15Absent, harch, hpresent]))
  refine ⟨fun hc => exists_entersUndefined (hexec.trans (undefinedForm_of_passed hc)), fun c hi hc => ?_⟩
  rw [hi, undefinedForm_of_failed hc] at hexec
  exact ⟨_, hexec, onlyAdvances_advance s⟩

theorem userAllows_eq_false {cfg : Cfg} {target : ExtTarget} (h : cfg.arch = .preV6 ∨ target ∉ cfg.userOps) :
    cfg.userAllows target = false := by
  rcases h with h | h <;> simp [Cfg.userAllows, h]

section

variable {c : Cond} {s : State} (hc : condPassed c s = true)

include hc

theorem withoutCp15_of_passed : withoutCp15 c s = undefinedInstruction s :=
  if_pos hc

section

variable (hu : s.inUserMode = true)

include hu

theorem mrcOp_of_userMode {rd : BitVec 4} {a : RegAddr} (hlegal : EncodingLegal s.cfg .read rd a) :
    mrcOp c rd a s = undefinedInstruction s := by
  simp [mrcOp, withoutCp15_of_passed hc, hlegal.encodingRefusal_eq_none, hc, hu]

theorem mrrcOp_of_userMode {rn rd op crm : BitVec 4} (hrn : rn ≠ 15) (hrd : rd ≠ 15) :
    mrrcOp c rn rd op crm s = undefinedInstruction s := by
  rw [mrrcOp, withoutCp15_of_passed hc, if_neg (not_or.mpr ⟨hrd, hrn⟩), hc, hu]
  exact ite_self _

theorem mcrOp_of_userMode {rd : BitVec 4} {a : RegAddr} (hlegal : EncodingLegal s.cfg .write rd a)
    (hlist : s.cfg.userAllows (.write a) = false) : mcrOp c rd a s = undefinedInstruction s := by
  simp [mcrOp, withoutCp15_of_passed hc, hlegal.encodingRefusal_eq_none, hc, hu, hlist]

theorem mcrrOp_of_userMode {rn rd op crm : BitVec 4} (hrn : rn ≠ 15) (hrd : rd ≠ 15)
    (hlist : s.cfg.userAllows (.mcrr op crm) = false) : mcrrOp c rn rd op crm s = undefinedInstruction s := by
  rw [mcrrOp, withoutCp15_of_passed hc, if_neg (not_or.mpr ⟨hrd, hrn⟩), hc, hu, hlist]
  exact ite_self _

end

/-- An MRC whose register answers Undefined traps in every mode: in User mode every MRC does. -/
theorem mrcOp_of_undefined {rd : BitVec 4} {a : RegAddr} (hpresent : s.cfg.cp15Absent = false)
    (ha : encodingRefusal s.cfg .read rd a = none) (hv : cp15Read a s = .undefined) :
    mrcOp c rd a s = undefinedInstruction s := by
  simp [mrcOp, hpresent, ha, hc, readAccess, hv]

/-- An MCR whose register answers Undefined traps in every mode, in the user-access list or not. -/
theorem mcrOp_of_undefined {rd : BitVec 4} {a : RegAddr} (hpresent : s.cfg.cp15Absent = false)
    (ha : encodingRefusal s.cfg .write rd a = none) (hv : cp15Write a (s.readReg rd) s = .undefined) :
    mcrOp c rd a s = undefinedInstruction s := by
  simp [mcrOp, hpresent, ha, hc, writeAccess, hv]

end

/-- Settles O20. -/
theorem userModeReadsTrap : Obligations.UserModeReadsTrap := by
  intro c s hu hc
  refine ⟨fun i rd a hform hlegal => exists_entersUndefined ?_, fun rn rd op crm hrn hrd => exists_entersUndefined ?_⟩
  · rw [exec_mrcForm hform, mrcOp_of_userMode hc hu hlegal]
  · exact mrrcOp_of_userMode hc hu hrn hrd

/-- Settles O21. -/
theorem userModeWritesTrap : Obligations.UserModeWritesTrap := by
  intro c s hu hc
  refine ⟨fun i rd a hform hlegal hlist => exists_entersUndefined ?_,
    fun rn rd op crm hrn hrd hlist => exists_entersUndefined ?_⟩
  · rw [exec_mcrForm hform, mcrOp_of_userMode hc hu hlegal (userAllows_eq_false hlist)]
  · exact mcrrOp_of_userMode hc hu hrn hrd (userAllows_eq_false hlist)

/-! ### Primary registers 12 and 14 (R251, R253) -/

section

variable {a : RegAddr} {s : State} (h1 : a.opc1 = 0) (hcrn : a.crn = 12 ∨ a.crn = 14) (harch : s.cfg.arch = .v6)

include h1 hcrn harch

theorem addressRefusal_c12_c14_v6 (d : Direction) : addressRefusal s.cfg d a = none := by
  obtain hcrn | hcrn := hcrn <;> simp [addressRefusal, h1, hcrn, harch]

theorem cp15Read_c12_c14 : cp15Read a s = .undefined := by
  rw [cp15Read, addressRefusal_c12_c14_v6 h1 hcrn harch]
  obtain hcrn | hcrn := hcrn <;> simp [h1, hcrn]

theorem cp15Write_c12_c14 (v : Word) : cp15Write a v s = .undefined := by
  rw [cp15Write, addressRefusal_c12_c14_v6 h1 hcrn harch]
  obtain hcrn | hcrn := hcrn <;> simp [h1, hcrn]

end

/-- Settles O23: from v6 the register's own verdict is Undefined, before v6 its address is UNPREDICTABLE. -/
theorem registers12And14 : Obligations.Registers12And14 := by
  intro i c rd a s hform h1 hcrn hrd
  refine ⟨fun harch hc => exists_entersUndefined ?_, fun harch hpresent =>
    exec_of_addressRefusal hform hpresent hrd fun _ => addressRefusal_c12_c14 h1 hcrn harch⟩
  have hpresent : s.cfg.cp15Absent = false := by simp [Cfg.cp15Absent, harch]
  have hlegal (d : Direction) : encodingRefusal s.cfg d rd a = none :=
    (encodingRefusal_of_rd_ne hrd _ _ _).trans (addressRefusal_c12_c14_v6 h1 hcrn harch d)
  obtain hform | hform := hform
  · rw [exec_mrcForm hform, mrcOp_of_undefined hc hpresent (hlegal _) (cp15Read_c12_c14 h1 hcrn harch)]
  · rw [exec_mcrForm hform, mcrOp_of_undefined hc hpresent (hlegal _) (cp15Write_c12_c14 h1 hcrn harch _)]

/-! ### Read, modify, write (R146, R297) -/

/-- Access is decided by the implementation and the status. -/
theorem Reaches.congr {c : Cond} {s t : State} (h : Reaches c s) (hcfg : t.cfg = s.cfg) (hcpsr : t.cpsr = s.cpsr) :
    Reaches c t := by
  obtain ⟨hpresent, hcond, hpriv⟩ := h
  have hc : condPassed c t = condPassed c s := by
    cases c <;> simp only [condPassed, State.flagN, State.flagZ, State.flagC, State.flagV, hcpsr]
  have hm : t.inUserMode = s.inUserMode := by simp only [State.inUserMode, State.modeBits, hcpsr]
  exact ⟨hcfg ▸ hpresent, hc ▸ hcond, hm ▸ hpriv⟩

/-- In the RW bits a read of the Control register returns what is stored. -/
theorem State.crRead_and_rwMask {s : State} (h : s.Inv) : s.crRead &&& s.cfg.rwMask = s.cr := by
  refine Eq.trans ?_ (masked_of_outside h.cr)
  apply BitVec.eq_of_getLsbD_eq
  intro n hn
  rw [BitVec.getLsbD_and, BitVec.getLsbD_and, State.crRead_getLsbD s hn, Cfg.rwMask_getLsbD]
  cases s.cfg.crKindAt n <;> simp [beq_eq_decide]

/-- An MCR to the Control register of a word `v` put into Rd by hand stores the RW bits of `v`. -/
theorem exec_mcrCr_writeReg {c : Cond} {rd : BitVec 4} {t : State} (hrd : rd ≠ 15) (h : Reaches c t) (v : Word) :
    ∃ u, exec (.mcrCr c rd) (t.writeReg rd v) = .next u ∧ u.cr = v &&& t.cfg.rwMask := by
  have hreach : Reaches c (t.writeReg rd v) := h.congr rfl rfl
  refine ⟨_, mcrOp_of_done hrd (hreach.as _) (cp15Write_cr _ _), ?_⟩
  rw [State.advance_cr, State.crWrite_cr, State.readReg_writeReg, State.writeReg_cfg]

/-- Settles O11: of the word read only the RW bits are written back, and those are the ones stored. -/
theorem controlReadModifyWrite : Obligations.ControlReadModifyWrite := by
  intro c rd s m hrd h hinv
  have hread : exec (.mrcCr c rd) s = .next (s.writeReg rd s.crRead).advance := mrcOp_of_value hrd h (cp15Read_cr s)
  have hreach : Reaches c (s.writeReg rd s.crRead).advance := h.congr rfl rfl
  obtain ⟨u, hu, hucr⟩ := exec_mcrCr_writeReg hrd hreach ((s.writeReg rd s.crRead).advance.readReg rd ||| m)
  obtain ⟨v, hv, hvcr⟩ := exec_mcrCr_writeReg hrd hreach ((s.writeReg rd s.crRead).advance.readReg rd &&& ~~~m)
  refine ⟨_, u, v, hread, hu, hv, fun n hn => ?_⟩
  have hbit : (s.crRead &&& s.cfg.rwMask).getLsbD n = s.cr.getLsbD n := by rw [State.crRead_and_rwMask hinv]
  simp only [State.readReg_advance, State.readReg_writeReg, State.advance_cfg, State.writeReg_cfg] at hucr hvcr
  rw [hucr, hvcr, ← hbit]
  simp only [BitVec.getLsbD_and, BitVec.getLsbD_or, BitVec.getLsbD_not, Cfg.rwMask_getLsbD, hn, decide_true,
    Bool.true_and, beq_eq_decide]
  constructor
  · rw [Bool.and_or_distrib_right, Bool.and_comm (m.getLsbD n)]
  · rw [Bool.and_right_comm]

/-! ### The handler's answer (R145) -/

section

variable {s : State} {call : ExtCall}

/-- What a served call did shows in the parts it names, so a later move that leaves them alone does not matter. -/
theorem HandlerDid.trans_nil {u t : State} (h : HandlerDid s u call) (h' : SameBut [] u t) : HandlerDid s t call := by
  have hext : t.ext = u.ext := h' .ext List.not_mem_nil
  have hcr : t.crEff = u.crEff := h' .crEff List.not_mem_nil
  have hcpacr : t.cpacrEff = u.cpacrEff := h' .cpacrEff List.not_mem_nil
  unfold HandlerDid at h ⊢
  cases hrule : s.cfg.extRule call.target <;> rw [hrule] at h
  case served | byHandler => exact ⟨hext.trans h.1, h.2.trans_nil h'⟩
  case noEffect => exact SameBut.trans_nil h h'
  case prefetchFlush => exact ⟨hcr.trans h.1, hcpacr.trans h.2.1, h.2.2.trans_nil h'⟩
  case unpredictable | undefined => exact h.elim

theorem extAnswer_of_handlerDone (h : HandlerDone s call) : ∃ u, extAnswer call s = .done u ∧ HandlerDid s u call := by
  rcases h with h | ⟨hrule, hf⟩ | ⟨hrule, hf, hv⟩
  · obtain hrule | hrule : s.cfg.extRule call.target = .noEffect ∨ s.cfg.extRule call.target = .prefetchFlush := by
      simpa using h
    · exact ⟨s, by simp only [extAnswer, hrule], by simpa only [HandlerDid, hrule] using sameBut_refl s⟩
    · refine ⟨s.synchronise, by simp only [extAnswer, hrule], ?_⟩
      simpa only [HandlerDid, hrule] using ⟨rfl, rfl, sameBut_advance_iff.mp (sameBut_synchronise s)⟩
  · refine ⟨s.moveExt call, by simp [extAnswer, hrule, hf], ?_⟩
    simpa only [HandlerDid, hrule] using ⟨rfl, sameBut_moveExt s call⟩
  · refine ⟨s.moveExt call, by simp [extAnswer, hrule, hf, hv], ?_⟩
    simpa only [HandlerDid, hrule] using ⟨rfl, sameBut_moveExt s call⟩

theorem extAnswer_of_handlerUndefined (h : HandlerUndefined s call) : extAnswer call s = .undefined := by
  rcases h with hrule | ⟨hrule, hf, hv⟩
  · simp only [extAnswer, hrule]
  · simp [extAnswer, hrule, hf, hv]

theorem extAnswer_of_handlerUnpredictable (h : HandlerUnpredictable s call) :
    extAnswer call s = .unpredictable .handlerUnpredictable := by
  rcases h with hrule | ⟨hrule, hf, hv⟩
  · simp only [extAnswer, hrule]
  · simp [extAnswer, hrule, hf, hv]

theorem extAnswer_of_handlerUnsettled (h : HandlerUnsettled s call) :
    extAnswer call s = .unpredictable .controlBitUnsynchronised := by
  obtain ⟨hmem, hf⟩ := h
  obtain hrule | hrule : s.cfg.extRule call.target = .served ∨ s.cfg.extRule call.target = .byHandler := by
    simpa using hmem
  · simp [extAnswer, hrule, hf]
  · simp [extAnswer, hrule, hf]

end

/-! ### What an access makes of the answer (R142 steps 5 to 7)

All four accesses that reach the handler are one function of its answer, `handlerOutcome`. -/

/-- The access that makes `call`: completed by `finish`, Undefined Instruction, or refused. -/
def handlerOutcome (s : State) (call : ExtCall) (finish : State → State) : Host.Outcome State Fault Refusal :=
  match extAnswer call s with
  | .done u => .next (finish u).advance
  | .undefined => undefinedInstruction s
  | .unpredictable r => .refused r

/-- A served access completes, from a state that has the registers, the mode and the pc it started with. -/
theorem handlerOutcome_of_done {s : State} {call : ExtCall} (h : HandlerDone s call) (finish : State → State) :
    ∃ u, handlerOutcome s call finish = .next (finish u).advance ∧ HandlerDid s u call ∧
      u.regs = s.regs ∧ u.pc = s.pc ∧ u.cpsr = s.cpsr := by
  obtain ⟨u, hu, hdid⟩ := extAnswer_of_handlerDone h
  obtain ⟨hregs, hpc, hcpsr, -⟩ := extAnswer_done_keeps hu
  exact ⟨u, by rw [handlerOutcome, hu], hdid, hregs, hpc, hcpsr⟩

/-- An access that is not served traps or is refused by name. -/
theorem handlerOutcome_turned_away {s : State} {call : ExtCall} {finish : State → State}
    {o : Host.Outcome State Fault Refusal} (ho : o = handlerOutcome s call finish) :
    (HandlerUndefined s call → ∃ t, o = .next t ∧ EntersUndefined s t) ∧
    (HandlerUnpredictable s call → o = .refused .handlerUnpredictable) ∧
    (HandlerUnsettled s call → o = .refused .controlBitUnsynchronised) := by
  subst ho
  refine ⟨fun h => exists_entersUndefined ?_, fun h => ?_, fun h => ?_⟩ <;> rw [handlerOutcome]
  · rw [extAnswer_of_handlerUndefined h]
  · rw [extAnswer_of_handlerUnpredictable h]
  · rw [extAnswer_of_handlerUnsettled h]

section

variable {c : Cond} {rn rd op crm : BitVec 4} {a : RegAddr} {s : State}

/-- The handler's addresses are none of primary registers 0, 1, 4, 12 and 14. -/
theorem ToHandler.crn_ne {cfg : Cfg} (h : ToHandler cfg a) (h1 : a.opc1 = 0) :
    a.crn ≠ 0 ∧ a.crn ≠ 1 ∧ a.crn ≠ 4 ∧ ¬ (a.crn = 12 ∨ a.crn = 14) := by
  obtain ⟨-, hcrn⟩ := h.resolve_left fun h => h.1 h1
  revert hcrn
  generalize a.crn = crn
  revert crn
  decide

theorem ToHandler.addressRefusal_eq_none {cfg : Cfg} (h : ToHandler cfg a) (d : Direction) :
    addressRefusal cfg d a = none := by
  by_cases h1 : a.opc1 = 0
  · obtain ⟨h0, hc1, h4, h12⟩ := h.crn_ne h1
    simp only [addressRefusal, if_neg (not_not.mpr h1), if_neg h0, if_neg hc1, if_neg h4, h12, false_and, if_false]
  · obtain ⟨-, hmem⟩ := h.resolve_right fun h => h1 h.1
    simp only [addressRefusal, if_pos h1, Cfg.opc1Assigned, List.contains_iff_mem, if_pos hmem]

theorem ToHandler.cp15Read_eq (h : ToHandler s.cfg a) : cp15Read a s = extRead a s := by
  rw [cp15Read, h.addressRefusal_eq_none]
  by_cases h1 : a.opc1 = 0
  · obtain ⟨h0, hc1, -, h12⟩ := h.crn_ne h1
    simp only [if_neg (not_not.mpr h1), if_neg h0, if_neg hc1, if_neg h12]
  · exact if_pos h1

theorem ToHandler.cp15Write_eq (h : ToHandler s.cfg a) (v : Word) : cp15Write a v s = extWrite a v s := by
  rw [cp15Write, h.addressRefusal_eq_none]
  by_cases h1 : a.opc1 = 0
  · obtain ⟨-, hc1, -, h12⟩ := h.crn_ne h1
    simp only [if_neg (not_not.mpr h1), if_neg hc1, if_neg h12]
  · exact if_pos h1

theorem exec_mrc_toHandler {i : Instr} (hform : mrcForm i = some (c, rd, a)) (hrd : rd ≠ 15) (ha : ToHandler s.cfg a)
    (h : Reaches c s) :
    exec i s = handlerOutcome s ⟨.read a, 0, 0⟩ (·.writeReg rd (s.extValue ⟨.read a, 0, 0⟩)) := by
  rw [exec_mrcForm hform, mrcOp_of_reaches hrd (ha.addressRefusal_eq_none _) h, readAccess, ha.cp15Read_eq, extRead,
    handlerOutcome]
  cases extAnswer ⟨.read a, 0, 0⟩ s <;> rfl

theorem exec_mcr_toHandler {i : Instr} (hform : mcrForm i = some (c, rd, a)) (hrd : rd ≠ 15) (ha : ToHandler s.cfg a)
    (h : ReachesAs (.write a) c s) : exec i s = handlerOutcome s ⟨.write a, s.readReg rd, 0⟩ id := by
  rw [exec_mcrForm hform, mcrOp_of_reaches hrd (ha.addressRefusal_eq_none _) h, writeAccess, ha.cp15Write_eq, extWrite,
    handlerOutcome]
  cases extAnswer ⟨.write a, s.readReg rd, 0⟩ s <;> rfl

theorem exec_mcrr_of_reaches (hrd : rd ≠ 15) (hrn : rn ≠ 15) (h : ReachesAs (.mcrr op crm) c s) :
    exec (.mcrr c rn rd op crm) s = handlerOutcome s ⟨.mcrr op crm, s.readReg rd, s.readReg rn⟩ id := by
  have hmode := h.not_turned_away
  obtain ⟨hpresent, hcond, -⟩ := h
  show mcrrOp c rn rd op crm s = _
  rw [mcrrOp, hpresent, if_neg (not_or.mpr ⟨hrd, hrn⟩), hcond, hmode]
  rfl

theorem exec_mrrc_of_reaches (hrd : rd ≠ 15) (hrn : rn ≠ 15) (h : Reaches c s) :
    exec (.mrrc c rn rd op crm) s = handlerOutcome s ⟨.mrrc op crm, 0, 0⟩
      (·.writeRegPair rd rn (s.extValue ⟨.mrrc op crm, 0, 0⟩) (s.extValue2 ⟨.mrrc op crm, 0, 0⟩)) := by
  obtain ⟨hpresent, hcond, hpriv⟩ := h
  show mrrcOp c rn rd op crm s = _
  rw [mrrcOp, hpresent, if_neg (not_or.mpr ⟨hrd, hrn⟩), hcond, hpriv]
  rfl

/-- Two registers read as the pair was written. -/
theorem State.readReg_writeRegPair (s : State) (hrd : rd ≠ 15) (hrn : rn ≠ 15) (hne : rd ≠ rn) (v1 v2 : Word) :
    (s.writeRegPair rd rn v1 v2).readReg rd = v1 ∧ (s.writeRegPair rd rn v1 v2).readReg rn = v2 := by
  rw [State.writeRegPair, if_neg hne, State.readReg_writeReg_ne _ hrn hrd hne]
  exact ⟨s.readReg_writeReg rd v1, State.readReg_writeReg _ rn v2⟩

end

/-- A served access that writes no register completes. -/
theorem handlerOutcome_write {s : State} {call : ExtCall} (h : HandlerDone s call) :
    ∃ t, handlerOutcome s call id = .next t ∧ HandlerDid s t call ∧ Advanced s t ∧ SameRegs s t := by
  obtain ⟨u, hu, hdid, hregs, hpc, -⟩ := handlerOutcome_of_done h id
  exact ⟨_, hu, hdid.trans_nil (onlyAdvances_advance u).2.2, advanced_advance hpc, fun k => congrArg (·[k]) hregs⟩

/-- Settles O26. -/
theorem handlerReadsComplete : Obligations.HandlerReadsComplete := by
  intro i c rd a s hform hrd ha h hdone
  rw [exec_mrc_toHandler hform hrd ha h]
  obtain ⟨u, hu, hdid, hregs, hpc, hcpsr⟩ := handlerOutcome_of_done hdone _
  refine ⟨_, hu, ?_, hdid.trans_nil (sameBut_writeReg u rd _), advanced_advance hpc,
    (sameRegsBut_writeReg u rd _).congr hregs hcpsr⟩
  rw [State.readReg_advance, State.readReg_writeReg]
  rfl

/-- Settles O27. -/
theorem handlerWritesComplete : Obligations.HandlerWritesComplete := by
  intro i c rd a s hform hrd ha h hdone
  rw [exec_mcr_toHandler hform hrd ha h]
  exact handlerOutcome_write hdone

/-- Settles O28. -/
theorem twoRegisterWritesComplete : Obligations.TwoRegisterWritesComplete := by
  intro c rn rd op crm s hrd hrn h hdone
  rw [exec_mcrr_of_reaches hrd hrn h]
  exact handlerOutcome_write hdone

/-- Settles O29. -/
theorem twoRegisterReadsComplete : Obligations.TwoRegisterReadsComplete := by
  intro c rn rd op crm s hrd hrn h hdone
  rw [exec_mrrc_of_reaches hrd hrn h]
  obtain ⟨u, hu, hdid, hregs, hpc, hcpsr⟩ := handlerOutcome_of_done hdone _
  exact ⟨_, hu, fun hne => u.readReg_writeRegPair hrd hrn hne _ _, hdid.trans_nil (sameBut_writeRegPair u rd rn _ _),
    advanced_advance ((u.writeRegPair_pc ..).trans hpc), (sameRegsBut_writeRegPair u rd rn _ _).congr hregs hcpsr⟩

/-- Settles O30: each of the four accesses is its `handlerOutcome`, which turns it away. -/
theorem handlerTurnsAway : Obligations.HandlerTurnsAway := by
  intro c rd s hrd
  refine ⟨fun i a hform ha h => ?_, fun i a hform ha h => ?_, fun rn op crm hrn h => ?_, fun rn op crm hrn h => ?_⟩
  · exact handlerOutcome_turned_away (exec_mrc_toHandler hform hrd ha h)
  · exact handlerOutcome_turned_away (exec_mcr_toHandler hform hrd ha h)
  · exact handlerOutcome_turned_away (exec_mcrr_of_reaches hrd hrn h)
  · exact handlerOutcome_turned_away (exec_mrrc_of_reaches hrd hrn h)

end Sys2Proof.Machine
end

section
/-! PROOFS. The reads of primary register 0, the ID codes (41_reg0_id_codes.md): which register a selector reads, and how a
program finds the registers that are implemented. -/

namespace Sys2Proof.Machine

open Sys2Proof

/-! ### The register a selector names (R151, R153) -/

/-- The model tests the selector as a number, the statement as the 3-bit field of the instruction. -/
theorem Cfg.idRegister_eq_ite (cfg : Cfg) (opc2 : BitVec 3) : cfg.idRegister opc2 =
    if opc2 = 1 then cfg.ctr.getD cfg.midr
    else if opc2 = 2 then cfg.tcmtr.getD cfg.midr
    else if opc2 = 3 then cfg.tlbtr.getD cfg.midr
    else if opc2 = 4 then cfg.mpuir.getD cfg.midr
    else cfg.midr := by
  unfold Cfg.idRegister
  split
  case h_1 h | h_2 h | h_3 h | h_4 h => rw [eq_ofNat_of_toNat h]; rfl
  case h_5 h1 h2 h3 h4 =>
    rw [if_neg (mt (congrArg BitVec.toNat) h1), if_neg (mt (congrArg BitVec.toNat) h2),
      if_neg (mt (congrArg BitVec.toNat) h3), if_neg (mt (congrArg BitVec.toNat) h4)]

theorem cp15Read_id (opc2 : BitVec 3) (s : State) :
    cp15Read ⟨0, 0, 0, opc2⟩ s = .value (s.cfg.idRegister opc2) s := rfl

/-- An MRC of c0, c0 completes with the register its selector names in Rd, and changes nothing else. -/
theorem exec_idRead {i : Instr} {c : Cond} {rd : BitVec 4} {opc2 : BitVec 3} {s : State}
    (hform : mrcForm i = some (c, rd, ⟨0, 0, 0, opc2⟩)) (hrd : rd ≠ 15) (h : Reaches c s) :
    ∃ t, exec i s = .next t ∧ t.readReg rd = s.cfg.idRegister opc2 ∧
      Advanced s t ∧ SameRegsBut [rd] s t ∧ SameBut [] s t := by
  refine ⟨_, (exec_mrcForm hform s).trans (mrcOp_of_value hrd h (cp15Read_id opc2 s)), ?_, advanced_advance rfl,
    sameRegsBut_writeReg s rd _, sameBut_writeReg s rd _⟩
  rw [State.readReg_advance, State.readReg_writeReg]

/-- Settles O7: with CRm c0 the register of the selector is read, with another CRm the address is refused. -/
theorem idRegisterReads : Obligations.IdRegisterReads := by
  refine ⟨fun i c rd opc2 s hform hrd h => ?_, fun i c rd crm opc2 s hform hcrm hrd hpresent => ?_⟩
  · rw [← Cfg.idRegister_eq_ite]
    exact exec_idRead hform hrd h
  · have hrefused : encodingRefusal s.cfg .read rd ⟨0, 0, crm, opc2⟩ = some .crmNotC0 :=
      (encodingRefusal_of_rd_ne hrd _ _ _).trans (addressRefusal_c0_read rfl rfl hcrm)
    rw [exec_mrcForm hform, mrcOp_of_encodingRefusal hpresent hrefused]

/-! ### The registers that are implemented (R154) -/

/-- What a selector's register reads as, with the Main ID register in place of an absent one, tells whether it is there. -/
theorem getD_ne_midr_iff {midr : Word} {r : Option Word} (h : differsFrom midr r = true) :
    r.getD midr ≠ midr ↔ r.isSome = true := by
  cases r with
  | none => simp
  | some v => simpa [differsFrom] using h

theorem Cfg.differsFrom_of_wf {cfg : Cfg} (hwf : cfg.wf = true) :
    differsFrom cfg.midr cfg.ctr = true ∧ differsFrom cfg.midr cfg.tcmtr = true ∧
      differsFrom cfg.midr cfg.tlbtr = true ∧ differsFrom cfg.midr cfg.mpuir = true := by
  simp only [Cfg.wf, Bool.and_eq_true] at hwf
  tauto

/-- R154, for every selector. -/
theorem Cfg.idRegister_ne_midr_iff {cfg : Cfg} (hwf : cfg.wf = true) (opc2 : BitVec 3) :
    cfg.idRegister opc2 ≠ cfg.midr ↔ cfg.idPresent opc2 = true := by
  obtain ⟨hctr, htcmtr, htlbtr, hmpuir⟩ := Cfg.differsFrom_of_wf hwf
  unfold Cfg.idRegister Cfg.idPresent
  split
  · exact getD_ne_midr_iff hctr
  · exact getD_ne_midr_iff htcmtr
  · exact getD_ne_midr_iff htlbtr
  · exact getD_ne_midr_iff hmpuir
  · simp

/-- Settles O8: the five reads put the registers of selectors 0 to 4 into Rd, and selector 0 names the Main ID register. -/
theorem idPresenceDetectable : Obligations.IdPresenceDetectable := by
  intro s c rd hwf hrd h
  obtain ⟨m, hm, hmidr, -⟩ := exec_idRead (i := .mrcMidr c rd) rfl hrd h
  obtain ⟨t1, h1, hctr, -⟩ := exec_idRead (i := .mrcCtr c rd) rfl hrd h
  obtain ⟨t2, h2, htcmtr, -⟩ := exec_idRead (i := .mrcTcmtr c rd) rfl hrd h
  obtain ⟨t3, h3, htlbtr, -⟩ := exec_idRead (i := .mrcTlbtr c rd) rfl hrd h
  obtain ⟨t4, h4, hmpuir, -⟩ := exec_idRead (i := .mrcMpuir c rd) rfl hrd h
  refine ⟨m, t1, t2, t3, t4, hm, h1, h2, h3, h4, ?_⟩
  rw [hmidr, hctr, htcmtr, htlbtr, hmpuir]
  exact ⟨Cfg.idRegister_ne_midr_iff hwf 1, Cfg.idRegister_ne_midr_iff hwf 2, Cfg.idRegister_ne_midr_iff hwf 3,
    Cfg.idRegister_ne_midr_iff hwf 4⟩

end Sys2Proof.Machine
end

section
/-! PROOFS. What each step makes of the three control registers; the registers that tell which coprocessors exist; the core
after reset; where the exceptions go, the interrupts among them; and what L4 makes of a load to the PC. -/

namespace Sys2Proof.Machine

open Sys2Proof

/-! ### The three control registers, step by step (R184, R216, R225, R303) -/

/-- The Control, Auxiliary control and Coprocessor access registers hold what they held. -/
structure KeepsControl (s t : State) : Prop where
  cr : t.cr = s.cr
  acr : t.acr = s.acr
  cpacr : t.cpacr = s.cpacr

theorem keepsControl_refl (s : State) : KeepsControl s s := ⟨rfl, rfl, rfl⟩

theorem keepsControl_takeException (s : State) (e : Exc) : KeepsControl s (s.takeException e) := ⟨rfl, rfl, rfl⟩

/-- The handler writes none of the three: a synchronisation only reads them. -/
theorem keepsControl_of_extAnswer {call : ExtCall} {s u : State} (h : extAnswer call s = .done u) : KeepsControl s u := by
  rcases extAnswer_done h with rfl | rfl | rfl <;> exact ⟨rfl, rfl, rfl⟩

theorem KeepsControl.advance {s u : State} (h : KeepsControl s u) : KeepsControl s u.advance :=
  ⟨h.cr, h.acr, h.cpacr⟩

theorem KeepsControl.writeReg {s u : State} (h : KeepsControl s u) (rd : BitVec 4) (v : Word) :
    KeepsControl s (u.writeReg rd v) :=
  ⟨h.cr, h.acr, h.cpacr⟩

theorem KeepsControl.writeRegPair {s u : State} (h : KeepsControl s u) (rd rn : BitVec 4) (v1 v2 : Word) :
    KeepsControl s (u.writeRegPair rd rn v1 v2) := by
  rcases u.writeRegPair_cases rd rn v1 v2 with ⟨v, e⟩ | e <;> rw [e]
  · exact h.writeReg rd v
  · exact (h.writeReg rd v1).writeReg rn v2

section

variable {c : Cond} {rd rn op crm : BitVec 4} {a : RegAddr} {s t : State}

theorem keepsControl_of_undefinedForm {c : Option Cond} (h : undefinedForm c s = .next t) : KeepsControl s t := by
  rcases undefinedForm_next h with rfl | rfl
  · exact (keepsControl_refl s).advance
  · exact keepsControl_takeException s _

theorem keepsControl_of_mrcOp (h : mrcOp c rd a s = .next t) : KeepsControl s t := by
  rcases mrcOp_next h with rfl | rfl | ⟨-, -, v, s', hread, rfl⟩
  · exact (keepsControl_refl s).advance
  · exact keepsControl_takeException s _
  · rcases cp15Read_value hread with rfl | hdone
    · exact ((keepsControl_refl _).writeReg rd v).advance
    · exact ((keepsControl_of_extAnswer hdone).writeReg rd v).advance

theorem keepsControl_of_mrrcOp (h : mrrcOp c rn rd op crm s = .next t) : KeepsControl s t := by
  rcases mrrcOp_next h with rfl | rfl | ⟨-, -, s', v1, v2, hdone, rfl⟩
  · exact (keepsControl_refl s).advance
  · exact keepsControl_takeException s _
  · exact ((keepsControl_of_extAnswer hdone).writeRegPair rd rn v1 v2).advance

theorem keepsControl_of_mcrrOp (h : mcrrOp c rn rd op crm s = .next t) : KeepsControl s t := by
  rcases mcrrOp_next h with rfl | rfl | ⟨-, -, s', hdone, rfl⟩
  · exact (keepsControl_refl s).advance
  · exact keepsControl_takeException s _
  · exact (keepsControl_of_extAnswer hdone).advance

/-- An instruction that is no MCR writes none of the three. -/
theorem keepsControl_of_exec {i : Instr} (hform : mcrForm i = none) (h : exec i s = .next t) : KeepsControl s t := by
  cases i with
  | cdp2 | cdp | mrc2 | mcr2 | mrrc2 | mcrr2 | ldcStcCorner | ldc2 | ldc | stc2 | stc =>
    exact keepsControl_of_undefinedForm ((exec_eq_undefinedForm (.inl rfl)).symm.trans h)
  | mrc | mrcMidr | mrcCtr | mrcTcmtr | mrcTlbtr | mrcMpuir | mrcId5 | mrcId6 | mrcId7 | mrcCr | mrcAcr | mrcCpacr
  | mrcC2 | mrcC3 | mrcC4 | mrcC5 | mrcC6 | mrcC7 | mrcC8 | mrcC9 | mrcC10 | mrcC11 | mrcC12 | mrcC13 | mrcC14 | mrcC15 =>
    exact keepsControl_of_mrcOp ((exec_mrcForm rfl s).symm.trans h)
  | mrrc => exact keepsControl_of_mrrcOp h
  | mcrr => exact keepsControl_of_mcrrOp h
  | _ => cases hform

theorem keepsControl_of_execCoprocessor {n : BitVec 4} {c : Option Cond} (h : execCoprocessor n c s = .next t) :
    KeepsControl s t := by
  unfold execCoprocessor undefinedInstruction at h
  split at h
  · cases h
    exact (keepsControl_refl s).advance
  · split at h
    · cases h
    · split at h <;> cases h
      exact keepsControl_takeException s _

end

/-- What a decoded word does to the three registers: nothing, or it is the MCR to one, its condition passed, and stores Rd
there. -/
inductive ControlEffect (s : State) : Decoded → State → Prop where
  | keeps {d : Decoded} {t : State} (same : KeepsControl s t) : ControlEffect s d t
  | writesControl (c : Cond) (rd : BitVec 4) (passed : condPassed c s = true) :
      ControlEffect s (.instr (.mcrCr c rd)) (s.crWrite (s.readReg rd)).advance
  | writesAuxiliary (c : Cond) (rd : BitVec 4) (passed : condPassed c s = true) :
      ControlEffect s (.instr (.mcrAcr c rd)) (s.acrWrite (s.readReg rd)).advance
  | writesAccess (c : Cond) (rd : BitVec 4) (passed : condPassed c s = true) :
      ControlEffect s (.instr (.mcrCpacr c rd)) (s.cpacrWrite (s.readReg rd)).advance

/-- An MCR: the address that CP15Write stores at fixes the row, since a decoded MCR is the one its fields name (R111). -/
theorem controlEffect_of_mcrForm {i : Instr} {c : Cond} {rd : BitVec 4} {a : RegAddr} {s t : State}
    (hform : mcrForm i = some (c, rd, a)) (hwf : i.wellFormed = true) (h : exec i s = .next t) :
    ControlEffect s (.instr i) t := by
  have hrow := refineMcr_of_mcrForm hform hwf
  rw [exec_mcrForm hform] at h
  rcases mcrOp_next h with rfl | rfl | ⟨hpassed, -, s', hwrite, rfl⟩
  · exact .keeps (keepsControl_refl s).advance
  · exact .keeps (keepsControl_takeException s _)
  rcases cp15Write_done hwrite with ⟨rfl, rfl⟩ | ⟨rfl, rfl⟩ | ⟨rfl, -, rfl⟩ | ⟨-, hdone⟩
  · subst hrow
    exact .writesControl c rd hpassed
  · subst hrow
    exact .writesAuxiliary c rd hpassed
  · subst hrow
    exact .writesAccess c rd hpassed
  · exact .keeps (keepsControl_of_extAnswer hdone).advance

theorem controlEffect_of_runDecoded {w : Word} {s t : State} (h : runDecoded (decode w) s = .next t) :
    ControlEffect s (decode w) t := by
  cases hd : decode w with
  | instr i =>
    rw [hd] at h
    cases hform : mcrForm i with
    | none => exact .keeps (keepsControl_of_exec hform h)
    | some form =>
      obtain ⟨hwf, -⟩ := encodeOfDecode w i hd
      exact controlEffect_of_mcrForm hform hwf h
  | coprocessor n c =>
    rw [hd] at h
    exact .keeps (keepsControl_of_execCoprocessor h)
  | coprocessorCorner c =>
    rw [hd] at h
    exact .keeps (keepsControl_of_undefinedForm h)
  | rejected e =>
    rw [hd] at h
    cases e
    cases h

/-- Settles O46: the word at the pc keeps the three registers, or is the MCR to one and leaves the other two. -/
theorem controlChangesOnlyByMcr : Obligations.ControlChangesOnlyByMcr := by
  intro s t hstep
  obtain ⟨-, -, w, hw, hrun⟩ := step_next_fetch hstep
  have heffect := controlEffect_of_runDecoded hrun
  generalize hd : decode w = d at heffect
  cases heffect with
  | keeps same => exact ⟨absurd same.cr, absurd same.acr, absurd same.cpacr⟩
  | writesControl c rd passed => exact ⟨fun _ => ⟨w, c, rd, hw, hd, passed, rfl⟩, absurd rfl, absurd rfl⟩
  | writesAuxiliary c rd passed => exact ⟨absurd rfl, fun _ => ⟨w, c, rd, hw, hd, passed, rfl⟩, absurd rfl⟩
  | writesAccess c rd passed => exact ⟨absurd rfl, absurd rfl, fun _ => ⟨w, c, rd, hw, hd, passed, rfl⟩⟩

/-! ### Which coprocessors exist (R227) -/

theorem accessRights_allOnes : ∀ n < 14, accessRights 0xFFFFFFFF n = 0b11 := by
  decide

/-- Settles O16: a write of ones has no reserved field, so that it stores 0b11 for every implemented coprocessor, and the read
that follows returns what was stored. -/
theorem autoConfiguration : Obligations.AutoConfiguration := by
  intro c rd s hrd h hones
  obtain ⟨-, hstores⟩ := accessRegisterWrite c rd s hrd h
  have hallowed : ∀ n < 14, s.cfg.cpImplAt n = true → accessRights (s.readReg rd) n ≠ 0b10 := by
    intro n hn _
    rw [hones, accessRights_allOnes n hn]
    decide
  obtain ⟨t, hwrite, hstored, -, -, -, -, hsame⟩ := hstores hallowed
  have hcfg : t.cfg = s.cfg := hsame .cfg (by decide)
  have hcpsr : t.cpsr = s.cpsr := hsame .cpsr (by decide)
  obtain ⟨u, hread, hrights, -⟩ := accessRegisterRead c rd t hrd (h.congr hcfg hcpsr)
  refine ⟨t, u, hwrite, hread, fun n hn => ?_⟩
  rw [hrights n hn, hstored n hn, hcfg, hones, accessRights_allOnes n hn]
  split <;> rfl

/-! ### The core after reset (R270) -/

/-- Settles O41: CPSR after reset is the entry of `CORE_EXC`, into a status of 0. -/
theorem resetCoreState : Obligations.ResetCoreState := by
  intro cfg r
  have hmode : r.modeBits = cfg.coreExc.reset.mode.bits := entryStatus_mode _ _ _
  have hbit (i : Nat) : r.cpsr.getLsbD i = _ := entryStatus_getLsbD cfg.coreExc.reset cfg.endianReset.ee 0 i
  refine ⟨hmode, hbit 5, hbit 9, rfl, fun hcore => ?_⟩
  rw [hmode, hbit, hbit, hbit, State.resetWith_pc, Cfg.resetPc, hcore]
  exact ⟨rfl, rfl, rfl, rfl, BitVec.add_zero _⟩

/-! ### Where the exceptions go (R197, R206, R262) -/

/-- With VE = 0 the two interrupts have places in the vector range (R206). -/
theorem State.interruptVectors_of_ve_clear {s : State} (hve : s.crEff.getLsbD 24 = false) :
    s.interruptVector .irq = s.vectorBase + 0x18 ∧ s.interruptVector .fiq = s.vectorBase + 0x1C := by
  have hclear : ¬ s.crEff.getLsbD 24 = true := Bool.eq_false_iff.mp hve
  exact ⟨if_neg hclear, if_neg hclear⟩

/-- Settles O38: the default's vectors 1 to 4 are the words at offsets 0x04 to 0x10. -/
theorem exceptionVectors : Obligations.ExceptionVectors := by
  intro s addr base
  refine ⟨fun hcore => ?_, State.interruptVectors_of_ve_clear⟩
  simp only [State.takeException_pc, State.vector, hcore]
  exact ⟨rfl, rfl, rfl, rfl⟩

/-! ### The interrupts (R265, R269) -/

/-- An entry that masks IRQ, with the values of its description written out. -/
theorem Enters.entersWith {e : Exc} {s t : State} (h : Enters e s t) {entry : ExcEntry} (hentry : s.entry e = entry)
    (hirq : entry.masksIrq = true) :
    EntersWith s t (regSlot entry.mode.bits 14) entry.mode.spsrIndex entry.linkOffset entry.mode.bits
      entry.masksAborts entry.masksFiq := by
  subst hentry
  have hmasked := h.irqMask
  rw [hirq, Bool.true_or] at hmasked
  exact ⟨h.link, h.saved, h.mode, h.arm, h.fiqMask, hmasked, h.abortMask⟩

/-- An interrupt the core masks changes nothing, another is taken. -/
theorem State.raiseIrq_eq_ite (s : State) : s.raiseIrq = if s.cpsr.getLsbD 7 then s else s.takeException .irq := rfl

theorem State.raiseFiq_eq_ite (s : State) : s.raiseFiq = if s.cpsr.getLsbD 6 then s else s.takeException .fiq := rfl

/-- Settles O56: for each interrupt, the mask of CPSR decides between no change and the entry. -/
theorem interruptMoves : Obligations.InterruptMoves := by
  intro s base
  refine ⟨fun hmask => ?_, fun hmask => ?_, fun hmask => ?_, fun hmask => ?_⟩
  · rw [s.raiseIrq_eq_ite, if_pos hmask]
  · rw [s.raiseIrq_eq_ite, hmask, if_neg Bool.false_ne_true]
    exact ⟨enters_takeException s .irq, rfl, fun hve => (State.interruptVectors_of_ve_clear hve).1, fun hcore =>
      (enters_takeException s .irq).entersWith (congrArg CoreExc.irq hcore) rfl⟩
  · rw [s.raiseFiq_eq_ite, if_pos hmask]
  · rw [s.raiseFiq_eq_ite, hmask, if_neg Bool.false_ne_true]
    exact ⟨enters_takeException s .fiq, rfl, fun hve => (State.interruptVectors_of_ve_clear hve).2, fun hcore =>
      (enters_takeException s .fiq).entersWith (congrArg CoreExc.fiq hcore) rfl⟩

/-! ### A load to the PC (R184, R199, R264) -/

/-- Settles O54: the load asks whether L4 is in effect, and then what it is. -/
theorem thumbInterworking : Obligations.ThumbInterworking := by
  intro s v
  have hsync : s.unsynchronised .l4 = true ↔ s.cr.getLsbD 15 ≠ s.crEff.getLsbD 15 := s.unsynchronised_iff .l4
  have hl4 : s.exported .l4 = true ↔ s.crEff.getLsbD 15 = true ∨ s.cfg.crKindAt 15 = .fixed1 := s.exported_iff .l4
  simp only [State.thumbAfterPcLoad, ← hsync, ← hl4]
  split
  · rfl
  split <;> rfl

end Sys2Proof.Machine
end

section
/-! PROOFS. What taking a Data Abort, IRQ or FIQ leaves (43_reg2_to_15.md, 60_exceptions.md). -/

namespace Sys2Proof.Machine

open Sys2Proof

/-! ### The entries to the Data Abort, IRQ and FIQ handlers (R244, R261, R268, R269) -/

/-- An abort of data records in the state the handler owns (log 34); the interrupts record nothing. -/
@[simp] theorem State.extAfter_dataAbort (s : State) (addr : Word) :
    s.extAfter (.dataAbort addr) = Config.extDataAbort s.ext addr s.draws := rfl

/-- Settles O37: the three entries are those of every exception, and the default's description of each gives its values. -/
theorem abortAndInterruptEntries : Obligations.AbortAndInterruptEntries := by
  intro s addr
  refine ⟨⟨enters_takeException s _, ?dataAbortExt⟩, ⟨enters_takeException s _, ?irqExt⟩,
    ⟨enters_takeException s _, ?fiqExt⟩, fun hcore => ⟨?dataAbort, ?irq, ?fiq⟩⟩
  case dataAbortExt => rw [State.takeException_ext, State.extAfter_dataAbort]
  case irqExt => rw [State.takeException_ext, State.extAfter_irq]
  case fiqExt => rw [State.takeException_ext, State.extAfter_fiq]
  case dataAbort => exact (enters_takeException s (.dataAbort addr)).entersWith (congrArg CoreExc.dataAbort hcore) rfl
  case irq => exact (enters_takeException s .irq).entersWith (congrArg CoreExc.irq hcore) rfl
  case fiq => exact (enters_takeException s .fiq).entersWith (congrArg CoreExc.fiq hcore) rfl

end Sys2Proof.Machine
end

section
/-! PROOFS. What taking the Undefined Instruction exception leaves, and the return from an exception (60_exceptions.md). -/

namespace Sys2Proof.Machine

open Sys2Proof

/-! ### The entry to the Undefined Instruction handler (R260, R268, R269) -/

/-- The default's vector of the Undefined Instruction exception is the word at offset 4 of the range (R262). -/
theorem vectorRange_add_undefinedInstruction (high : Bool) :
    vectorRange high + vectorOffset CoreExc.generalKnowledge.undefinedInstructionVector =
      if high then 0xFFFF0004 else 0x00000004 := by
  cases high <;> rfl

/-- Settles O36: the entry is that of every exception, and the default's description of it gives its values. -/
theorem undefinedInstructionEntry : Obligations.UndefinedInstructionEntry := by
  intro s
  have henters := entersUndefined_takeException s
  refine ⟨s.takeException .undefinedInstruction, rfl, henters, fun hcore => ⟨?values, ?vector⟩⟩
  case values => exact henters.toEnters.entersWith (congrArg CoreExc.undefinedInstruction hcore) rfl
  case vector =>
    have hvector := henters.vector
    rw [hcore] at hvector
    exact hvector.trans (vectorRange_add_undefinedInstruction _)

/-! ### What a return leaves (R271) -/

/-- `t` is `s` after the return through the saved status `k`, to R14 less `back`. -/
structure Returns (k : Fin 5) (back : Word) (s t : State) : Prop where
  cpsr : t.cpsr = (s.spsr[k] &&& s.cfg.coreExc.returnMask) ||| (s.cpsr &&& ~~~s.cfg.coreExc.returnMask)
  pc : t.pc = s.readReg 14 - back
  crEff : t.crEff = s.cr
  cpacrEff : t.cpacrEff = s.cpacr
  regs : SameRegs s t
  others : SameBut [.cpsr, .crEff, .cpacrEff] s t

/-- A mode with a saved status returns through it. -/
theorem State.exceptionReturn_of_spsrSlot {s : State} {k : Fin 5} (hk : spsrSlot s.modeBits = some k) (back : Word) :
    ∃ t, s.exceptionReturn back = .next t ∧ Returns k back s t := by
  unfold State.exceptionReturn
  rw [hk]
  refine ⟨_, rfl, rfl, rfl, rfl, rfl, fun _ => rfl, fun p hp => ?_⟩
  cases p
  case cpsr | crEff | cpacrEff => simp at hp
  case spsr | mem => exact fun _ => rfl
  all_goals rfl

/-- A core whose return restores the whole status restores the saved one. -/
theorem Returns.cpsr_of_returnMask {k : Fin 5} {back : Word} {s t : State} (h : Returns k back s t)
    (hmask : s.cfg.coreExc.returnMask = 0xFFFFFFFF) : t.cpsr = s.spsr[k] := by
  have hall : s.cfg.coreExc.returnMask = BitVec.allOnes 32 := hmask
  rw [h.cpsr, hall, BitVec.and_allOnes, BitVec.not_allOnes, BitVec.and_zero, BitVec.or_zero]

/-! ### Entry and return together (R271) -/

/-- A part that each of two moves keeps is kept by both. -/
theorem Part.Same.trans {p : Part} {s u t : State} (h : p.Same s u) (h' : p.Same u t) : p.Same s t := by
  cases p with
  | spsr | mem => exact fun k => (h' k).trans (h k)
  | cfg | cpsr | cr | crEff | acr | cpacr | cpacrEff | ext => exact Eq.trans h' h

/-- A register is where the mode places it. -/
theorem State.readReg_of_modeBits {s : State} {m : BitVec 5} (h : s.modeBits = m) (i : BitVec 4) :
    s.readReg i = s.regs[regSlot m i] := by
  subst h
  rfl

/-- R14 of a mode that exceptions enter is no other mode's. -/
theorem mode_of_regSlot_link : ∀ (e : ExcMode) (m : BitVec 5), regSlot m 14 = regSlot e.bits 14 → m = e.bits := by
  intro e
  cases e <;> decide

/-- An entry writes no register of another mode than the one it enters. -/
theorem regSlot_ne_link {e : ExcMode} {m : BitVec 5} (hm : m ≠ e.bits) {i : BitVec 4} (hi : i ≠ 15) :
    regSlot m i ≠ regSlot e.bits 14 := by
  intro hslot
  have hi14 : i = 14 := by
    rw [← regNumber_regSlot m i hi, hslot, regNumber_regSlot _ _ (by decide)]
  subst hi14
  exact hm (mode_of_regSlot_link e m hslot)

/-- On entry R14 is the return address. -/
theorem Enters.readReg_link {e : Exc} {s t : State} (h : Enters e s t)
    (hlt : s.pc.toNat + (s.entry e).linkOffset < 2 ^ 32) :
    t.readReg 14 = s.pc + BitVec.ofNat 32 (s.entry e).linkOffset :=
  (State.readReg_of_modeBits h.mode 14).trans (h.link hlt)

/-- Settles O39: the entry saves the status and the pc where the return finds them, and writes no register of the mode
interrupted. -/
theorem returnUndoesEntry : Obligations.ReturnUndoesEntry := by
  intro s e hmask hmode hlt
  have henters := enters_takeException s e
  have hslot : spsrSlot (s.takeException e).modeBits = some (s.entry e).mode.spsrIndex := by
    rw [henters.mode, spsrSlot_bits]
  obtain ⟨t, hreturn, hreturns⟩ :=
    State.exceptionReturn_of_spsrSlot hslot (BitVec.ofNat 32 (s.entry e).linkOffset)
  have hcpsr : t.cpsr = s.cpsr := (hreturns.cpsr_of_returnMask hmask).trans henters.saved
  refine ⟨t, hreturn, ?pc, hcpsr, fun i hi => ?reg, hreturns.others .ext (by decide), fun p hp => ?others⟩
  case pc => rw [hreturns.pc, henters.readReg_link hlt, BitVec.add_sub_cancel]
  case reg =>
    have hbank : t.modeBits = s.modeBits := congrArg (BitVec.extractLsb' 0 5) hcpsr
    rw [State.readReg_of_modeBits hbank]
    exact (hreturns.regs _).trans (henters.regs _ (regSlot_ne_link hmode hi))
  case others =>
    by_cases hstatus : p = .cpsr
    · subst hstatus
      exact hcpsr
    · have hentered : p.Same s (s.takeException e) := henters.others p (by simp_all)
      have hreturned : p.Same (s.takeException e) t := hreturns.others p (by simp_all)
      exact hentered.trans hreturned

end Sys2Proof.Machine
end

section
/-! PROOFS. What asserting reset leaves (70_reset_and_hazards.md). -/

namespace Sys2Proof.Machine

open Sys2Proof

/-! ### Reset as a move of the environment (R290, R291, R303) -/

/-- Reset takes the registers of every mode, the current one and the banked ones alike, to the reset state. -/
@[simp] theorem State.assertReset_regs (s : State) : s.assertReset.regs = (State.resetWith s.cfg).regs := rfl

@[simp] theorem State.assertReset_pc (s : State) : s.assertReset.pc = (State.resetWith s.cfg).pc := rfl

/-- Reset does not reach memory (log 28). -/
@[simp] theorem State.assertReset_mem (s : State) : s.assertReset.mem = s.mem := rfl

/-- Memory is the one part in which a machine reset while it runs differs from one that starts. -/
theorem sameBut_assertReset (s : State) : SameBut [.mem] (State.resetWith s.cfg) s.assertReset := by
  intro p hp
  cases p with
  | spsr => exact fun _ => rfl
  | cfg | cpsr | cr | crEff | acr | cpacr | cpacrEff | ext => rfl
  | mem => simp at hp

theorem sameRegs_assertReset (s : State) : SameRegs (State.resetWith s.cfg) s.assertReset := by
  intro k
  rw [State.assertReset_regs]

/-- Settles O55: the frame and the registers are those of the reset state, the memory is that of before. -/
theorem resetMove : Obligations.ResetMove := by
  intro s
  refine ⟨sameBut_assertReset s, s.assertReset_pc, sameRegs_assertReset s, fun a => ?mem⟩
  case mem => rw [State.assertReset_mem]

end Sys2Proof.Machine
end
